-- ==== Sys2Proof/Word.lean ====
section
/-! DEFINITION. The word types of the EAFE and the names of its registers and pins. -/

namespace Sys2Proof

/-- One 32-bit register or bus value (R20, R40). -/
abbrev Word := BitVec 32

/-- One 16-bit field of the frame (R100 to R102). -/
abbrev Half := BitVec 16

/-- One byte of the frame (R12). -/
abbrev Byte := BitVec 8

/-- The cycle control word `CW[5:0] = {rst, sel, we, idx[2:0]}` (R51). -/
abbrev ControlWord := BitVec 6

/-- The eight registers of the window, in index order (R20). -/
inductive Reg where
  | ctrl
  | drain
  | level
  | tips
  | encode
  | status
  | frameA
  | frameB
deriving DecidableEq, Repr

/-- The level of `evt_in` over the sampling window of one clock edge: steady
low, steady high, or changing inside the window, when the sample is a draw (R60). -/
inductive PinLevel where
  | low
  | high
  | changing
deriving DecidableEq, Repr, Inhabited

/-- All inputs of one clock cycle (R8): the control word, the write data and
the level of `evt_in` around the edge that ends the cycle. -/
structure CycleInput where
  control : ControlWord
  wdata   : Word
  evt     : PinLevel
deriving DecidableEq, Repr, Inhabited

end Sys2Proof
end

