-- ==== Sys2Proof/Config.lean ====
section
/-! DEFINITION. What an implementation of the EAFE fixes (R6), and the free
values: what the spec leaves open and nothing in this package may evaluate. -/

namespace Sys2Proof

/-- The implementation parameters of R6. A model takes them as arguments, so
they stand in the machine's state as a constant that no step changes. -/
structure Params where
  /-- `COUNT_W`, the width of COUNT (R6, D8). -/
  countW     : Nat
  /-- `SYNC_STAGES`, the number of synchronizer flip-flops (R6, D10). -/
  syncStages : Nat
  /-- `BASE_ADDR`, the host byte address of register offset 0 (R6, D5). -/
  baseAddr   : Nat
deriving DecidableEq, Repr

namespace Config

/-- The values R6 assumes when none is stated. R6 leaves `BASE_ADDR` open:
DESIGN CHOICE 0 (log entry 4); unsafe, and no statement rests on it. -/
def defaultParams : Params := ⟨32, 2, 0⟩

/-- The sample of `evt_in` at the edge that ends clock cycle `k`, when the pin
changes inside that edge's sampling window: a draw, "chosen by no law" (R60;
93_implementation_defined.md I2). A free value (log entry 3). -/
opaque sampleDraw : Nat → Bool

/-- The inputs of clock cycle `k` when no script line gives them: R8 lets them
be anything. A free value (log entry 2). -/
opaque freeInput : Nat → CycleInput

end Config

end Sys2Proof
end

