-- ==== Sys2Proof/Syntax.lean ====
section
/-! DEFINITION. The operations of the EAFE: one constructor per row of the opcode table (R53, R70). -/

namespace Sys2Proof

/-- What can happen in one clock cycle (R53). Every cycle performs exactly one
of `reset`, `idle` or one bus operation, and a non-reset cycle may perform
`evt` beside it (R70). A bus write carries its 32-bit `wdata` (R51). -/
inductive Instr where
  /-- `RESET` (R140). -/
  | reset
  /-- `IDLE` (R62). -/
  | idle
  /-- `RD CTRL` (R104). -/
  | rdCtrl
  /-- `WR CTRL` (R105). -/
  | wrCtrl (wdata : Word)
  /-- `RD DRAIN` (R64). -/
  | rdDrain
  /-- `WR DRAIN` (R65). -/
  | wrDrain (wdata : Word)
  /-- `RD LEVEL` (R106). -/
  | rdLevel
  /-- `WR LEVEL` (R107). -/
  | wrLevel (wdata : Word)
  /-- `RD TIPS` (R108). -/
  | rdTips
  /-- `WR TIPS` (R109). -/
  | wrTips (wdata : Word)
  /-- `RD ENCODE` (R111). -/
  | rdEncode
  /-- `WR ENCODE` (R110). -/
  | wrEncode (wdata : Word)
  /-- `RD STATUS` (R112). -/
  | rdStatus
  /-- `WR STATUS` (R113). -/
  | wrStatus (wdata : Word)
  /-- `RD FRAME_A` (R114). -/
  | rdFrameA
  /-- `WR FRAME_A` (R115). -/
  | wrFrameA (wdata : Word)
  /-- `RD FRAME_B` (R116). -/
  | rdFrameB
  /-- `WR FRAME_B` (R117). -/
  | wrFrameB (wdata : Word)
  /-- `EVT` (R63), the operation of the PIN format: no control word selects it. -/
  | evt
deriving DecidableEq, Repr

end Sys2Proof
end

