-- ==== Sys2Proof/WellFormed.lean ====
section
/-! DEFINITION. Which operations can be presented as a control word, and which parameters are legal. -/

namespace Sys2Proof

/-- An operation that the control inputs of a cycle can present: every one but
`EVT`, which is "not selected by `CW`" (R53). Every 32-bit `wdata` is legal
(R24, R25, R26, R54), so no operand is checked. -/
def Instr.wellFormed : Instr → Bool
  | .reset => true
  | .idle => true
  | .rdCtrl => true
  | .wrCtrl _ => true
  | .rdDrain => true
  | .wrDrain _ => true
  | .rdLevel => true
  | .wrLevel _ => true
  | .rdTips => true
  | .wrTips _ => true
  | .rdEncode => true
  | .wrEncode _ => true
  | .rdStatus => true
  | .wrStatus _ => true
  | .rdFrameA => true
  | .wrFrameA _ => true
  | .rdFrameB => true
  | .wrFrameB _ => true
  | .evt => false

/-- The legal values of the parameters (R6): `COUNT_W` from 16 to 32,
`SYNC_STAGES` at least 2, `BASE_ADDR` aligned to 32 bytes. -/
abbrev Params.Legal (p : Params) : Prop :=
  16 ≤ p.countW ∧ p.countW ≤ 32 ∧ 2 ≤ p.syncStages ∧ p.baseAddr % 32 = 0

end Sys2Proof
end

