-- ==== Sys2Proof/Decode.lean ====
section
/-! DEFINITION. The decoder of R56 and an encoder from the opcode map of R53, on
control words and on the byte record of one operation (log entry 8). -/

namespace Sys2Proof

/-- The 3-bit index of a register (R20). -/
def Reg.idx : Reg → BitVec 3
  | .ctrl => 0
  | .drain => 1
  | .level => 2
  | .tips => 3
  | .encode => 4
  | .status => 5
  | .frameA => 6
  | .frameB => 7

/-- `reg(i)` of R56. The map is total: every index names a register (R20). -/
def regOfIdx (i : BitVec 3) : Reg :=
  match i.toNat with
  | 0 => .ctrl
  | 1 => .drain
  | 2 => .level
  | 3 => .tips
  | 4 => .encode
  | 5 => .status
  | 6 => .frameA
  | _ => .frameB

/-- `READ(r)` of R56. -/
def readOf : Reg → Instr
  | .ctrl => .rdCtrl
  | .drain => .rdDrain
  | .level => .rdLevel
  | .tips => .rdTips
  | .encode => .rdEncode
  | .status => .rdStatus
  | .frameA => .rdFrameA
  | .frameB => .rdFrameB

/-- `WRITE(r)` of R56 with the cycle's `wdata`. -/
def writeOf : Reg → Word → Instr
  | .ctrl, w => .wrCtrl w
  | .drain, w => .wrDrain w
  | .level, w => .wrLevel w
  | .tips, w => .wrTips w
  | .encode, w => .wrEncode w
  | .status, w => .wrStatus w
  | .frameA, w => .wrFrameA w
  | .frameB, w => .wrFrameB w

/-- The decoder of R56: total, because no control word is illegal (R54).
RESET comes first and overrides a bus access of the same cycle (R56, R140). -/
def decodeControl (cw : ControlWord) (wdata : Word) : Instr :=
  if cw.getLsbD 5 then .reset
  else if !cw.getLsbD 4 then .idle
  else if !cw.getLsbD 3 then readOf (regOfIdx (cw.extractLsb' 0 3))
  else writeOf (regOfIdx (cw.extractLsb' 0 3)) wdata

/-- Why a byte record is no operation (log entry 8). The control words
themselves are never refused (R54). -/
inductive DecodeError where
  /-- Fewer bytes than one record: a control byte and four bytes of `wdata`. -/
  | truncated
  /-- Bits 7:6 of the control byte are not 0: it holds no 6-bit control word. -/
  | notAControlWord
deriving DecidableEq, Repr

/-- Read one operation from its byte record and give back the remaining bytes.
The record numbers bits as the opcode table does: bits 5:0 are `CW`, bits 7:6
are 0, bits 39:8 are `wdata`, least significant byte first (log entry 8). -/
def decodeBytes : List Byte → Except DecodeError (Instr × List Byte)
  | c :: w0 :: w1 :: w2 :: w3 :: rest =>
    if c.extractLsb' 6 2 = 0 then
      .ok (decodeControl (c.extractLsb' 0 6) (w3 ++ w2 ++ w1 ++ w0), rest)
    else .error .notAControlWord
  | _ => .error .truncated

/-- The control word of an operation, from the opcode map of R53, with every
don't-care bit 0 as a script emits it (R57); none for `EVT`. -/
def encodeControl : Instr → Option ControlWord
  | .reset => some 0b100000
  | .idle => some 0b000000
  | .rdCtrl => some 0b010000
  | .wrCtrl _ => some 0b011000
  | .rdDrain => some 0b010001
  | .wrDrain _ => some 0b011001
  | .rdLevel => some 0b010010
  | .wrLevel _ => some 0b011010
  | .rdTips => some 0b010011
  | .wrTips _ => some 0b011011
  | .rdEncode => some 0b010100
  | .wrEncode _ => some 0b011100
  | .rdStatus => some 0b010101
  | .wrStatus _ => some 0b011101
  | .rdFrameA => some 0b010110
  | .wrFrameA _ => some 0b011110
  | .rdFrameB => some 0b010111
  | .wrFrameB _ => some 0b011111
  | .evt => none

/-- The `wdata` of an operation: the operand of a write, and 0 where a script
emits no write (R57). -/
def encodeData : Instr → Word
  | .wrCtrl w => w
  | .wrDrain w => w
  | .wrLevel w => w
  | .wrTips w => w
  | .wrEncode w => w
  | .wrStatus w => w
  | .wrFrameA w => w
  | .wrFrameB w => w
  | .reset => 0
  | .idle => 0
  | .rdCtrl => 0
  | .rdDrain => 0
  | .rdLevel => 0
  | .rdTips => 0
  | .rdEncode => 0
  | .rdStatus => 0
  | .rdFrameA => 0
  | .rdFrameB => 0
  | .evt => 0

/-- The byte record of an operation, as `decodeBytes` reads it; empty for
`EVT`, which no control word presents (R53). -/
def encode (i : Instr) : List Byte :=
  match encodeControl i with
  | some cw =>
    [cw.setWidth 8, (encodeData i).extractLsb' 0 8, (encodeData i).extractLsb' 8 8,
      (encodeData i).extractLsb' 16 8, (encodeData i).extractLsb' 24 8]
  | none => []

/-- `match` and `mask` of an operation's row in the opcode map (R53): a control
word of the row agrees with `match` on the bits of `mask`. EVT's row takes any
control word with `rst = 0`. -/
def opcodeRow : Instr → ControlWord × ControlWord
  | .reset => (0b100000, 0b100000)
  | .idle => (0b000000, 0b110000)
  | .rdCtrl => (0b010000, 0b111111)
  | .wrCtrl _ => (0b011000, 0b111111)
  | .rdDrain => (0b010001, 0b111111)
  | .wrDrain _ => (0b011001, 0b111111)
  | .rdLevel => (0b010010, 0b111111)
  | .wrLevel _ => (0b011010, 0b111111)
  | .rdTips => (0b010011, 0b111111)
  | .wrTips _ => (0b011011, 0b111111)
  | .rdEncode => (0b010100, 0b111111)
  | .wrEncode _ => (0b011100, 0b111111)
  | .rdStatus => (0b010101, 0b111111)
  | .wrStatus _ => (0b011101, 0b111111)
  | .rdFrameA => (0b010110, 0b111111)
  | .wrFrameA _ => (0b011110, 0b111111)
  | .rdFrameB => (0b010111, 0b111111)
  | .wrFrameB _ => (0b011111, 0b111111)
  | .evt => (0b000000, 0b100000)

/-- The first `nbits` bits of `w`, the bits above them 0, as a byte record. -/
def recordOfNat (nbits w : Nat) : List Byte :=
  [BitVec.ofNat 8 (w % 2 ^ nbits), BitVec.ofNat 8 (w % 2 ^ nbits / 2 ^ 8),
    BitVec.ofNat 8 (w % 2 ^ nbits / 2 ^ 16), BitVec.ofNat 8 (w % 2 ^ nbits / 2 ^ 24),
    BitVec.ofNat 8 (w % 2 ^ nbits / 2 ^ 32)]

/-- The operation the decoder reads from the bits `w`, numbered as the opcode
table numbers them; none where it refuses. -/
def decodeTableWord (nbits w : Nat) : Option Instr :=
  if w % 2 ^ nbits < 2 ^ 40 then
    match decodeBytes (recordOfNat nbits w) with
    | .ok (i, _) => some i
    | .error _ => none
  else none

end Sys2Proof
end

