-- ==== Sys2Proof/Machine/Frame.lean ====
section
/-! DEFINITION. The encode function of R100 to R103 and the packing of R29: pure
functions of the Reading and the policy. -/

namespace Sys2Proof.Machine

/-- `clamp(v, lo, hi)` is `max(lo, min(hi, v))` (R11). -/
def clamp (v lo hi : Int) : Int :=
  max lo (min hi v)

/-- The water-level field: the low 16 bits under the wrap policy, the value
clamped to the signed 16-bit range under the saturate policy (R100). -/
def level16 (lvlSat : Bool) (level : Word) : Half :=
  if lvlSat then BitVec.ofInt 16 (clamp level.toInt (-32768) 32767)
  else level.extractLsb' 0 16

/-- The tips field, saturated at 65535 (R101). -/
def tips16 (tips : Word) : Half :=
  if tips.toNat > 65535 then 0xFFFF else tips.extractLsb' 0 16

/-- One of the eight shifts of a CRC byte: shift left, and exclusive or with
0x1021 when the bit shifted out was 1 (R102). -/
def crcShift (c : Half) : Half :=
  if c.getLsbD 15 then (c <<< 1) ^^^ 0x1021 else c <<< 1

/-- One byte of the CRC: into the high half, then eight shifts (R102). -/
def crcByte (c : Half) (b : Byte) : Half :=
  crcShift (crcShift (crcShift (crcShift (crcShift (crcShift (crcShift (crcShift
    (c ^^^ (b ++ (0 : Byte))))))))))

/-- `crc16_ccitt_false` of a byte string: initial value 0xFFFF (R102). -/
def crc16 (bytes : List Byte) : Half :=
  bytes.foldl crcByte 0xFFFF

/-- The six bytes of a frame, `b0` transmitted first (R12, R103). -/
structure Frame where
  b0 : Byte
  b1 : Byte
  b2 : Byte
  b3 : Byte
  b4 : Byte
  b5 : Byte
deriving DecidableEq, Repr

/-- The frame's bytes in the order they are transmitted (R12, R36). -/
def Frame.bytes (f : Frame) : List Byte :=
  [f.b0, f.b1, f.b2, f.b3, f.b4, f.b5]

/-- The high byte of a 16-bit field, which is sent first (R36, R103). -/
def highByte (v : Half) : Byte :=
  v.extractLsb' 8 8

/-- The low byte of a 16-bit field (R36, R103). -/
def lowByte (v : Half) : Byte :=
  v.extractLsb' 0 8

/-- The checksum of the frame whose first four bytes carry these two fields (R103). -/
def fieldCrc (lvl tip : Half) : Half :=
  crc16 [highByte lvl, lowByte lvl, highByte tip, lowByte tip]

/-- The frame that carries these two fields (R103). -/
def frameOf (lvl tip : Half) : Frame where
  b0 := highByte lvl
  b1 := lowByte lvl
  b2 := highByte tip
  b3 := lowByte tip
  b4 := highByte (fieldCrc lvl tip)
  b5 := lowByte (fieldCrc lvl tip)

/-- `Encode(LVL_SAT, LEVEL, TIPS)` (R103). -/
def encodeFrame (lvlSat : Bool) (level tips : Word) : Frame :=
  frameOf (level16 lvlSat level) (tips16 tips)

/-- FRAME_A holds bytes 0 to 3, byte 0 in bits 31:24 (R29, R37). -/
def packA (f : Frame) : Word :=
  f.b0 ++ f.b1 ++ f.b2 ++ f.b3

/-- FRAME_B holds bytes 4 and 5 in its low 16 bits (R29, R37). -/
def packB (f : Frame) : Half :=
  f.b4 ++ f.b5

/-- The six bytes held in FRAME_A and FRAME_B, most significant first (R9, R37). -/
def unpackFrame (a : Word) (b : Half) : Frame where
  b0 := a.extractLsb' 24 8
  b1 := a.extractLsb' 16 8
  b2 := a.extractLsb' 8 8
  b3 := a.extractLsb' 0 8
  b4 := highByte b
  b5 := lowByte b

end Sys2Proof.Machine
end

