-- ==== Sys2Proof/Machine/State.lean ====
section
/-! DEFINITION. The machine's state: the tuple of R35, the parameters of R6, and
what stands outside the block and drives its next cycles (R7, R8). -/

namespace Sys2Proof.Machine

/-- One of the host's variables `t0` to `t15` (R57). -/
abbrev HostVar := Fin 16

/-- The value a script line writes: a 32-bit immediate or a host variable (R57). -/
inductive Data where
  | imm (v : Word)
  | var (t : HostVar)
deriving DecidableEq, Repr

/-- What the host presents in one cycle: the control inputs themselves (R51),
or a load or a store of `bits` bits at a host byte address. Of these only 32-bit
accesses reach the block (R38, R39, R73). -/
inductive Request where
  | control (cw : ControlWord) (wdata : Data)
  | load (addr bits : Nat)
  | store (addr bits : Nat) (data : Data)
deriving DecidableEq, Repr

/-- One pending cycle of the host's script (R57): what the host presents, the
host variable that takes `rdata`, and the level of `evt_in`. -/
structure HostCycle where
  request : Request
  dst     : Option HostVar
  evt     : PinLevel
deriving DecidableEq, Repr

/-- The machine. -/
structure State where
  /-- The parameters of R6: configuration, which no step changes. -/
  params     : Params
  /-- COUNT, zero-extended to 32 bits (R21; log entry 5). -/
  count      : Word
  /-- SYNC, stage 0 first (R22). -/
  sync       : List Bool
  /-- PREV (R23). -/
  prev       : Bool
  /-- CTRL.LVL_SAT (R24). -/
  lvlSat     : Bool
  /-- LEVEL (R25). -/
  level      : Word
  /-- TIPS (R26). -/
  tips       : Word
  /-- STATUS.NWRITTEN (R27). -/
  nwritten   : Byte
  /-- STATUS.CAP_ERR (R27). -/
  capErr     : Bool
  /-- STATUS.FRAME_VALID (R27). -/
  frameValid : Bool
  /-- FRAME_A, frame bytes 0 to 3 (R29). -/
  frameA     : Word
  /-- FRAME_B, frame bytes 4 and 5 (R29). -/
  frameB     : Half
  /-- What the port `rdata` carried in the last cycle run (R8, R50; log entry 6). -/
  rdata      : Word
  /-- The level of `evt_in` around the edge of the cycle being run (R60; log entry 7). -/
  evtIn      : PinLevel
  /-- The index k of the cycle being run (R8); it numbers the free values. -/
  cycle      : Nat
  /-- The cycles the host has still to issue, first one first (R57; log entry 1). -/
  script     : List HostCycle
  /-- The host variables; one that holds no value yet is `none` (R57). -/
  hostVars   : Vector (Option Word) 16
deriving DecidableEq, Repr

/-- Why the machine stops with a fault. No operation of the block raises one (R9, R120). -/
inductive Fault where
  /-- Raised by `busInputs` for a host load or store outside the block's 32-byte
  window: R73 gives it no meaning (log entry 10). Safe: the model stops. -/
  | outsideWindow
deriving DecidableEq, Repr

/-- Why a step is refused. No operation of the block is refused (R70). -/
inductive Refusal where
  /-- Raised by an arm of `exec` without a meaning; there is none. Safe. -/
  | notModelled (mnemonic : String)
  /-- Raised by `busInputs` for a host access narrower than 32 bits: "A model
  of the host refuses it" (R39; log entry 10). Safe. -/
  | narrowAccess
  /-- Raised by `busInputs` for a host access wider than 32 bits: "Accesses of
  other widths, and misaligned accesses, are refused" (R73; log entry 10). Safe. -/
  | wideAccess
  /-- Raised by `busInputs` for a host access that is not 4-byte aligned: "A
  model of the host refuses it" (R39; log entry 10). Safe. -/
  | misalignedAccess
  /-- Raised by `busInputs` when a script line writes from a host variable that
  holds no value: "using one is an error of the script" (R57; log entry 11), and
  when a hand-made cycle that is no write names one as its `wdata`, which is the
  model's choice (DESIGN CHOICE, log entry 11). Safe. -/
  | unwrittenHostVariable
deriving DecidableEq, Repr

/-- The machine right after reset: every element of R35 is 0 (R140), with the
parameter values R6 assumes (log entry 4) and nothing pending (log entry 7). -/
def State.reset : State where
  params     := Config.defaultParams
  count      := 0
  sync       := List.replicate Config.defaultParams.syncStages false
  prev       := false
  lvlSat     := false
  level      := 0
  tips       := 0
  nwritten   := 0
  capErr     := false
  frameValid := false
  frameA     := 0
  frameB     := 0
  rdata      := 0
  evtIn      := .low
  cycle      := 0
  script     := []
  hostVars   := Vector.replicate 16 none

end Sys2Proof.Machine
end

