-- ==== Sys2Proof/Machine/Flags.lean ====
section
/-! DEFINITION. The register STATUS: its layout and the two ways `WR ENCODE`
writes it (R27, R28, R110). No other operation but reset writes a flag (R28). -/

namespace Sys2Proof.Machine

/-- `{22'h0, FRAME_VALID, CAP_ERR, NWRITTEN[7:0]}` (R27, R52). -/
def statusWord (s : State) : Word :=
  (0 : BitVec 22) ++ BitVec.ofBool s.frameValid ++ BitVec.ofBool s.capErr ++ s.nwritten

/-- The capacity error: STATUS says so, and the frame registers and FRAME_VALID
keep their values (R110, R120). -/
def reportCapacityError (s : State) : State :=
  { s with nwritten := 0, capErr := true }

/-- A successful encode: the six bytes of `f` are written, and STATUS says so (R110). -/
def reportEncoded (f : Frame) (s : State) : State :=
  { s with
    frameA := packA f
    frameB := packB f
    nwritten := 6
    capErr := false
    frameValid := true }

end Sys2Proof.Machine
end

