-- ==== Sys2Proof/Machine/Operands.lean ====
section
/-! DEFINITION. Operand assembly of R52: what a read returns, and which bits of
`wdata` a write uses. -/

namespace Sys2Proof.Machine

/-- `{31'h0, LVL_SAT}` (R52, R104). -/
def ctrlWord (s : State) : Word :=
  (0 : BitVec 31) ++ BitVec.ofBool s.lvlSat

/-- `zext_32(COUNT)` (R52, R64); COUNT is held zero-extended (log entry 5). -/
def drainWord (s : State) : Word :=
  s.count

/-- `{16'h0, b4, b5}` (R29, R52). -/
def frameBWord (s : State) : Word :=
  s.frameB.zeroExtend 32

/-- LVL_SAT is bit 0 of what is written to CTRL; bits 31:1 are ignored (R52, R105). -/
def lvlSatOf (wdata : Word) : Bool :=
  wdata.getLsbD 0

/-- `DST_LEN = uint(wdata)`, the destination's capacity in bytes (R52, R110). -/
def dstLen (wdata : Word) : Nat :=
  wdata.toNat

/-- `WriteEffect` of CTRL (R105). -/
def writeCtrl (wdata : Word) (s : State) : State :=
  { s with lvlSat := lvlSatOf wdata }

/-- `WriteEffect` of LEVEL (R107). -/
def writeLevel (wdata : Word) (s : State) : State :=
  { s with level := wdata }

/-- `WriteEffect` of TIPS (R109). -/
def writeTips (wdata : Word) (s : State) : State :=
  { s with tips := wdata }

/-- `WriteEffect` of ENCODE: encode LEVEL and TIPS under the policy, or report
that the destination is too small (R110). -/
def writeEncode (wdata : Word) (s : State) : State :=
  if dstLen wdata < 6 then reportCapacityError s
  else reportEncoded (encodeFrame s.lvlSat s.level s.tips) s

/-- `WriteEffect` of a read-only register: none (R54, R65, R113, R115, R117). -/
def writeIgnored (_wdata : Word) (s : State) : State :=
  s

end Sys2Proof.Machine
end

