-- ==== Sys2Proof/Machine/Ops.lean ====
section
/-! DEFINITION. The operations on the machine's state that the meanings share:
the event path (R60, R61, R63), the drain (R64), the read port (R50) and reset
(R140). The spec describes no exception entry and no return from one: the EAFE
never traps (R120, R123, R124), so there is no such operation. -/

namespace Sys2Proof.Machine

/-- `satinc_W(v)`: `v + 1` below `2^W - 1`, else `v` (R11, R71). -/
def satinc (w : Nat) (v : Word) : Word :=
  if v.toNat < 2 ^ w - 1 then v + 1 else v

/-- `SYNC[SYNC_STAGES-1]`, the last synchronizer stage (R22). -/
def lastStage (s : State) : Bool :=
  s.sync.getD (s.params.syncStages - 1) false

/-- `inc`, the EVT condition: `SYNC[SYNC_STAGES-1] = 1` and `PREV = 0` (R61, R63). -/
def eventDue (s : State) : Bool :=
  lastStage s && !s.prev

/-- The sample taken at the edge that ends cycle `k`: the pin's level if it is
steady, else a draw (R60; log entry 3). -/
def sampleOf (evt : PinLevel) (k : Nat) : Bool :=
  match evt with
  | .low => false
  | .high => true
  | .changing => Config.sampleDraw k

/-- `SYNC'[0] := samp`, `SYNC'[i] := SYNC[i-1]` for `n` stages (R60). -/
def shiftIn (n : Nat) (samp : Bool) (sync : List Bool) : List Bool :=
  (samp :: sync).take n

/-- The sampling of `evt_in` at the edge: the synchronizer shifts and PREV takes
its last stage (R60). -/
def sampleInput (s : State) : State :=
  { s with
    sync := shiftIn s.params.syncStages (sampleOf s.evtIn s.cycle) s.sync
    prev := lastStage s }

/-- The event increment: COUNT counts if the EVT condition holds (R63). -/
def eventIncrement (s : State) : State :=
  { s with count := if eventDue s then satinc s.params.countW s.count else s.count }

/-- The drain's reset point: COUNT is cleared, and an increment at the same
edge lands after the clear (R61, R64). -/
def clearCount (s : State) : State :=
  { s with count := if eventDue s then 1 else 0 }

/-- The edge that ends a non-reset cycle without a drain: COUNT, SYNC and PREV
follow R61. The bus path of the cycle leaves SYNC, PREV and COUNT alone, so
what this reads of them is the state before the edge. -/
def finishCycle (s : State) : State :=
  sampleInput (eventIncrement s)

/-- The edge that ends a cycle with a drain (R61, R64). -/
def finishDrain (s : State) : State :=
  sampleInput (clearCount s)

/-- The value on the port `rdata` in this cycle (R50, R61). -/
def driveRdata (v : Word) (s : State) : State :=
  { s with rdata := v }

/-- Every element of R35 takes its reset value and `rdata` is 0 (R140). The
parameters and what stands outside the block keep their values. -/
def resetElements (s : State) : State :=
  { s with
    count := 0
    sync := List.replicate s.params.syncStages false
    prev := false
    lvlSat := false
    level := 0
    tips := 0
    nwritten := 0
    capErr := false
    frameValid := false
    frameA := 0
    frameB := 0
    rdata := 0 }

end Sys2Proof.Machine
end

