-- ==== Sys2Proof/Machine/Accumulator.lean ====
section
/-! DEFINITION. The cycle without an access, reset, and the operations of the
event accumulator (R62 to R65, R140). Each meaning but EVT's is a whole clock
cycle: the bus path, then the event path of the same edge (R61). -/

namespace Sys2Proof.Machine

/-- `RESET` (R140): the bus access and the sample of the cycle have no effect. -/
def execReset (s : State) : Host.Outcome State Fault Refusal :=
  .next (resetElements s)

/-- `IDLE` (R62): no bus access; the event path runs. -/
def execIdle (s : State) : Host.Outcome State Fault Refusal :=
  .next (finishCycle (driveRdata 0 s))

/-- `EVT` (R63), the one operation that is not a cycle of its own: the
increment of COUNT, if the EVT condition holds. Every non-reset cycle performs
it through the same `eventIncrement`, but a drain, where R64 applies instead. -/
def execEvt (s : State) : Host.Outcome State Fault Refusal :=
  .next (eventIncrement s)

/-- `RD DRAIN` (R64): the count before the edge is returned and cleared. -/
def execRdDrain (s : State) : Host.Outcome State Fault Refusal :=
  .next (finishDrain (driveRdata (drainWord s) s))

/-- `WR DRAIN` (R65): no effect; the event path runs as in an idle cycle. -/
def execWrDrain (wdata : Word) (s : State) : Host.Outcome State Fault Refusal :=
  .next (finishCycle (writeIgnored wdata (driveRdata 0 s)))

end Sys2Proof.Machine
end

