-- ==== Sys2Proof/Machine/Encoder.lean ====
section
/-! DEFINITION. The operations on the encoder's registers (R104 to R117). Each
meaning is a whole clock cycle: the bus path, then the event path of the same
edge (R61). -/

namespace Sys2Proof.Machine

/-- `RD CTRL` (R104). -/
def execRdCtrl (s : State) : Host.Outcome State Fault Refusal :=
  .next (finishCycle (driveRdata (ctrlWord s) s))

/-- `WR CTRL` (R105). -/
def execWrCtrl (wdata : Word) (s : State) : Host.Outcome State Fault Refusal :=
  .next (finishCycle (writeCtrl wdata (driveRdata 0 s)))

/-- `RD LEVEL` (R106). -/
def execRdLevel (s : State) : Host.Outcome State Fault Refusal :=
  .next (finishCycle (driveRdata s.level s))

/-- `WR LEVEL` (R107). -/
def execWrLevel (wdata : Word) (s : State) : Host.Outcome State Fault Refusal :=
  .next (finishCycle (writeLevel wdata (driveRdata 0 s)))

/-- `RD TIPS` (R108). -/
def execRdTips (s : State) : Host.Outcome State Fault Refusal :=
  .next (finishCycle (driveRdata s.tips s))

/-- `WR TIPS` (R109). -/
def execWrTips (wdata : Word) (s : State) : Host.Outcome State Fault Refusal :=
  .next (finishCycle (writeTips wdata (driveRdata 0 s)))

/-- `RD ENCODE` (R111): a read returns 0 and never starts an encode. -/
def execRdEncode (s : State) : Host.Outcome State Fault Refusal :=
  .next (finishCycle (driveRdata 0 s))

/-- `WR ENCODE` (R110). -/
def execWrEncode (wdata : Word) (s : State) : Host.Outcome State Fault Refusal :=
  .next (finishCycle (writeEncode wdata (driveRdata 0 s)))

/-- `RD STATUS` (R112). -/
def execRdStatus (s : State) : Host.Outcome State Fault Refusal :=
  .next (finishCycle (driveRdata (statusWord s) s))

/-- `WR STATUS` (R113): no effect. -/
def execWrStatus (wdata : Word) (s : State) : Host.Outcome State Fault Refusal :=
  .next (finishCycle (writeIgnored wdata (driveRdata 0 s)))

/-- `RD FRAME_A` (R114). -/
def execRdFrameA (s : State) : Host.Outcome State Fault Refusal :=
  .next (finishCycle (driveRdata s.frameA s))

/-- `WR FRAME_A` (R115): no effect. -/
def execWrFrameA (wdata : Word) (s : State) : Host.Outcome State Fault Refusal :=
  .next (finishCycle (writeIgnored wdata (driveRdata 0 s)))

/-- `RD FRAME_B` (R116). -/
def execRdFrameB (s : State) : Host.Outcome State Fault Refusal :=
  .next (finishCycle (driveRdata (frameBWord s) s))

/-- `WR FRAME_B` (R117): no effect. -/
def execWrFrameB (wdata : Word) (s : State) : Host.Outcome State Fault Refusal :=
  .next (finishCycle (writeIgnored wdata (driveRdata 0 s)))

end Sys2Proof.Machine
end

