-- ==== Sys2Proof/Machine/Dispatch.lean ====
section
/-! DEFINITION. One arm per operation of R53: its meaning. -/

namespace Sys2Proof.Machine

def exec (i : Instr) (s : State) : Host.Outcome State Fault Refusal :=
  match i with
  | .reset => Sys2Proof.Machine.execReset s
  | .idle => Sys2Proof.Machine.execIdle s
  | .rdCtrl => Sys2Proof.Machine.execRdCtrl s
  | .wrCtrl wdata => Sys2Proof.Machine.execWrCtrl wdata s
  | .rdDrain => Sys2Proof.Machine.execRdDrain s
  | .wrDrain wdata => Sys2Proof.Machine.execWrDrain wdata s
  | .rdLevel => Sys2Proof.Machine.execRdLevel s
  | .wrLevel wdata => Sys2Proof.Machine.execWrLevel wdata s
  | .rdTips => Sys2Proof.Machine.execRdTips s
  | .wrTips wdata => Sys2Proof.Machine.execWrTips wdata s
  | .rdEncode => Sys2Proof.Machine.execRdEncode s
  | .wrEncode wdata => Sys2Proof.Machine.execWrEncode wdata s
  | .rdStatus => Sys2Proof.Machine.execRdStatus s
  | .wrStatus wdata => Sys2Proof.Machine.execWrStatus wdata s
  | .rdFrameA => Sys2Proof.Machine.execRdFrameA s
  | .wrFrameA wdata => Sys2Proof.Machine.execWrFrameA wdata s
  | .rdFrameB => Sys2Proof.Machine.execRdFrameB s
  | .wrFrameB wdata => Sys2Proof.Machine.execWrFrameB wdata s
  | .evt => Sys2Proof.Machine.execEvt s

end Sys2Proof.Machine
end

