-- ==== Sys2Proof/Machine/Cycle.lean ====
section
/-! DEFINITION. One clock cycle: from the host's request to the block's control
inputs (R39, R57, R73), through the decoder (R56) to the meaning (R61). -/

namespace Sys2Proof.Machine

/-- What a script line writes: the immediate, or the host variable's value, if
it holds one (R57). -/
def dataValue (s : State) : Data → Option Word
  | .imm v => some v
  | .var t => s.hostVars[t]

/-- The control word of a bus access: `{0, 1, we, idx}` (R51). -/
def busWord (we : Bool) (idx : BitVec 3) : ControlWord :=
  (0b01 : BitVec 2) ++ BitVec.ofBool we ++ idx

/-- `idx = (A - BASE_ADDR)[4:2]` (R50, R73). -/
def indexAt (p : Params) (addr : Nat) : BitVec 3 :=
  BitVec.ofNat 3 ((addr - p.baseAddr) / 4)

/-- What stops a host access before it reaches the bus (R39, R73; log entry
10): not 32 bits wide, not aligned, or outside the window. -/
def accessStop (p : Params) (addr bits : Nat) : Option (Fault ⊕ Refusal) :=
  if bits < 32 then some (.inr .narrowAccess)
  else if 32 < bits then some (.inr .wideAccess)
  else if addr % 4 ≠ 0 then some (.inr .misalignedAccess)
  else if addr < p.baseAddr ∨ p.baseAddr + 31 < addr then some (.inl .outsideWindow)
  else none

/-- The control inputs of a pending cycle, or why the host's model refuses it:
a raw control word with its data (R57), a load as a `RD` or a store as a `WR`
of the register at its address (R73). A cycle whose `wdata` names a host variable
that holds no value is refused. DESIGN CHOICE where its control word is no write
(RESET, IDLE, a read): the operation ignores `wdata` (R51, R140), R57 emits 0
there, and the spec has no such cycle; safe (log entry 11). -/
def busInputs (c : HostCycle) (s : State) : Except (Fault ⊕ Refusal) CycleInput :=
  match c.request with
  | .control cw wdata =>
    match dataValue s wdata with
    | some v => .ok ⟨cw, v, c.evt⟩
    | none => .error (.inr .unwrittenHostVariable)
  | .load addr bits =>
    match accessStop s.params addr bits with
    | some e => .error e
    | none => .ok ⟨busWord false (indexAt s.params addr), 0, c.evt⟩
  | .store addr bits data =>
    match accessStop s.params addr bits with
    | some e => .error e
    | none =>
      match dataValue s data with
      | some v => .ok ⟨busWord true (indexAt s.params addr), v, c.evt⟩
      | none => .error (.inr .unwrittenHostVariable)

/-- The state in which a cycle's operation is executed: the cycle index moves
on and the pin has its level (R8). -/
def beginCycle (p : CycleInput) (s : State) : State :=
  { s with cycle := s.cycle + 1, evtIn := p.evt }

/-- A host variable takes `rdata` at the end of its cycle (R57; log entry 12). -/
def storeVar (dst : Option HostVar) (s : State) : State :=
  match dst with
  | some t => { s with hostVars := s.hostVars.set t (some s.rdata) }
  | none => s

/-- The outcome of a cycle, with the host's variable written if it has a next state. -/
def afterCycle (dst : Option HostVar) :
    Host.Outcome State Fault Refusal → Host.Outcome State Fault Refusal
  | .next t => .next (storeVar dst t)
  | .fault r => .fault r
  | .refused r => .refused r

/-- `Step(S, inputs)` of R8 and R61: decode the control inputs and execute. -/
def runCycle (p : CycleInput) (s : State) : Host.Outcome State Fault Refusal :=
  exec (decodeControl p.control p.wdata) (beginCycle p s)

/-- One pending cycle of the script, taken off the list. -/
def runPending (c : HostCycle) (rest : List HostCycle) (s : State) :
    Host.Outcome State Fault Refusal :=
  match busInputs c s with
  | .ok p => afterCycle c.dst (runCycle p { s with script := rest })
  | .error (.inl r) => .fault r
  | .error (.inr r) => .refused r

/-- The next clock cycle: the first pending one, or one whose inputs are free
when nothing is pending (R8; log entries 1 and 2). -/
def nextCycle (s : State) : Host.Outcome State Fault Refusal :=
  match s.script with
  | [] => runCycle (Config.freeInput (s.cycle + 1)) s
  | c :: rest => runPending c rest s

/-- The pending cycle that presents the operation whose bits are `w`, numbered as
the opcode table numbers them, the bits above `nbits` 0: its control word in bits
5:0, its `wdata` in bits 39:8, and `evt_in` low (log entries 8 and 15). -/
def wordCycle (nbits w : Nat) : HostCycle where
  request := .control (BitVec.ofNat 6 (w % 2 ^ nbits))
    (.imm (BitVec.ofNat 32 (w % 2 ^ nbits / 2 ^ 8)))
  dst := none
  evt := .low

end Sys2Proof.Machine
end

