-- ==== Sys2Proof/Machine/Step.lean ====
section
/-! DEFINITION. The step of the machine, one clock cycle (R8), and how the host
places an operation where the step takes its next one (log entry 15). -/

namespace Sys2Proof.Machine

/-- One clock cycle (R8). -/
def step (s : State) : Host.Outcome State Fault Refusal :=
  nextCycle s

/-- `s` with the operation whose bits are `w` as the first pending cycle of the
script, which the next step runs. -/
def State.withFetchWord (s : State) (nbits w : Nat) : State :=
  { s with script := wordCycle nbits w :: s.script }

end Sys2Proof.Machine
end

