-- ==== Sys2Proof/Machine/Script.lean ====
section
/-! DEFINITION. Host scripts (R57), their pseudo-instructions (R58), and the
cycles they emit (R59). -/

namespace Sys2Proof.Machine

/-- A statement or a pseudo-instruction of a host script (R57, R58). -/
inductive Stmt where
  /-- `rst` -/
  | rst
  /-- `idle n`; plain `idle` is `idle 1` -/
  | idle (n : Nat)
  /-- `rd REG`, or `rd REG -> t` -/
  | rd (r : Reg) (dst : Option HostVar)
  /-- `wr REG, v` -/
  | wr (r : Reg) (v : Data)
  /-- `drain t` -/
  | drain (t : HostVar)
  /-- `policy wrap` -/
  | policyWrap
  /-- `policy sat` -/
  | policySat
  /-- `reading lvl, t` -/
  | reading (lvl t : Data)
  /-- `encode n`; plain `encode` is `encode 6` -/
  | encode (n : Data)
  /-- `frame ta, tb` -/
  | frame (ta tb : HostVar)
  /-- `tip` -/
  | tip
  /-- `cycle lvl, ts, ta, tb` -/
  | cycle (lvl : Data) (ts ta tb : HostVar)
deriving DecidableEq, Repr

/-- A line `[name:] stmt [| e]` (R57). A label emits nothing: scripts have no
branches. The sample `e` is 0 when it is omitted. -/
structure Line where
  label : Option String := none
  stmt  : Stmt
  e     : Bool := false
deriving DecidableEq, Repr

/-- The statements R57 allows: `idle n` needs `n` of at least 1. -/
def Stmt.wellFormed : Stmt → Bool
  | .idle n => 1 ≤ n
  | .rst => true
  | .rd _ _ => true
  | .wr _ _ => true
  | .drain _ => true
  | .policyWrap => true
  | .policySat => true
  | .reading _ _ => true
  | .encode _ => true
  | .frame _ _ => true
  | .tip => true
  | .cycle _ _ _ _ => true

/-- A decimal immediate, a negative one read as 32-bit two's complement (R57). -/
def immediate (z : Int) : Data :=
  .imm (BitVec.ofInt 32 z)

/-- `e` as the steady level of `evt_in` in a cycle (R57, R60). -/
def levelOf (e : Bool) : PinLevel :=
  if e then .high else .low

/-- `rst`: `CW = 100000` (R57). -/
def cycleRst (e : Bool) : HostCycle :=
  ⟨.control 0b100000 (.imm 0), none, levelOf e⟩

/-- `idle`: `CW = 000000` (R57). -/
def cycleIdle (e : Bool) : HostCycle :=
  ⟨.control 0b000000 (.imm 0), none, levelOf e⟩

/-- `rd REG [-> t]`: `CW = 010 ++ idx(REG)` (R57). -/
def cycleRd (r : Reg) (dst : Option HostVar) (e : Bool) : HostCycle :=
  ⟨.control (busWord false r.idx) (.imm 0), dst, levelOf e⟩

/-- `wr REG, v`: `CW = 011 ++ idx(REG)` (R57). -/
def cycleWr (r : Reg) (v : Data) (e : Bool) : HostCycle :=
  ⟨.control (busWord true r.idx) v, none, levelOf e⟩

/-- The cycles a statement emits, with `evt_in` sampled as `e` in each; `tip`
carries its own samples (R57, R58; log entry 13). -/
def Stmt.cycles (e : Bool) : Stmt → List HostCycle
  | .rst => [cycleRst e]
  | .idle n => List.replicate n (cycleIdle e)
  | .rd r dst => [cycleRd r dst e]
  | .wr r v => [cycleWr r v e]
  | .drain t => [cycleRd .drain (some t) e]
  | .policyWrap => [cycleWr .ctrl (.imm 0) e]
  | .policySat => [cycleWr .ctrl (.imm 1) e]
  | .reading lvl t => [cycleWr .level lvl e, cycleWr .tips t e]
  | .encode n => [cycleWr .encode n e]
  | .frame ta tb => [cycleRd .frameA (some ta) e, cycleRd .frameB (some tb) e]
  | .tip => [cycleIdle true, cycleIdle true, cycleIdle false, cycleIdle false]
  | .cycle lvl ts ta tb =>
    [cycleRd .drain (some ts) e, cycleWr .level lvl e, cycleWr .tips (.var ts) e,
      cycleWr .encode (.imm 6) e, cycleRd .status (some ts) e,
      cycleRd .frameA (some ta) e, cycleRd .frameB (some tb) e]

/-- The cycles a script emits, line by line (R57). -/
def scriptCycles : List Line → List HostCycle
  | [] => []
  | l :: ls => l.stmt.cycles l.e ++ scriptCycles ls

/-- The machine with a script put behind the cycles already pending. -/
def State.loadScript (s : State) (ls : List Line) : State :=
  { s with script := s.script ++ scriptCycles ls }

/-- The row `CW wdata samp` by which R59 writes a cycle. -/
structure CycleRow where
  control : ControlWord
  wdata   : Word
  samp    : Bool
deriving DecidableEq, Repr

/-- The row of an operation and a sample (R59); none for `EVT`, which has no
control word (R53). -/
def cycleRow (i : Instr) (samp : Bool) : Option CycleRow :=
  match encodeControl i with
  | some cw => some ⟨cw, encodeData i, samp⟩
  | none => none

end Sys2Proof.Machine
end

