-- ==== Sys2Proof/Safety.lean ====
section
/-! DEFINITION. The terms in which claims about the EAFE are made: its invariant,
the frames of its operations, the cycle of R61 written over the ports, and
counts along a run. Nothing here is used by the machine. -/

namespace Sys2Proof.Machine

/-! ### The invariant -/

/-- Legal parameters, COUNT within `COUNT_W` bits, and `SYNC_STAGES` synchronizer
stages (R6, R21, R22). -/
abbrev AccumulatorInv (s : State) : Prop :=
  s.params.Legal ∧ s.count.toNat < 2 ^ s.params.countW ∧ s.sync.length = s.params.syncStages

/-- STATUS tells of a success, of a capacity error, or of no encode since reset
(R27): with CAP_ERR set NWRITTEN is 0; without it NWRITTEN is 6 if a frame is
held and 0 if none is. -/
abbrev StatusInv (s : State) : Prop :=
  (s.capErr = true → s.nwritten = 0) ∧
  (s.capErr = false → s.frameValid = true → s.nwritten = 6) ∧
  (s.capErr = false → s.frameValid = false → s.nwritten = 0)

/-- FRAME_A and FRAME_B hold a frame with its own checksum, or, with FRAME_VALID
clear, their reset value 0 (R27, R29, R103). -/
abbrev FrameInv (s : State) : Prop :=
  (s.frameValid = true →
    s.frameB = crc16 [s.frameA.extractLsb' 24 8, s.frameA.extractLsb' 16 8,
      s.frameA.extractLsb' 8 8, s.frameA.extractLsb' 0 8]) ∧
  (s.frameValid = false → s.frameA = 0 ∧ s.frameB = 0)

/-- What holds after reset and after every later cycle. -/
abbrev State.Inv (s : State) : Prop :=
  AccumulatorInv s ∧ StatusInv s ∧ FrameInv s

/-- A frame the host may send: STATUS reads `0x00000206` (R144). -/
abbrev FrameUsable (s : State) : Prop :=
  statusWord s = 0x206

/-! ### Frames -/

/-- `SYNC[N-1] & ~PREV`, from R61, where N is SYNC_STAGES. -/
def incBit (s : State) : Bool :=
  s.sync.getD (s.params.syncStages - 1) false && !s.prev

/-- SYNC and PREV after an edge, from R60 and R61. -/
def EventSampled (s t : State) : Prop :=
  t.sync = (sampleOf s.evtIn s.cycle :: s.sync).take s.params.syncStages ∧
  t.prev = s.sync.getD (s.params.syncStages - 1) false

/-- COUNT after an edge without a drain, from R61. -/
def EventCounted (s t : State) : Prop :=
  t.count = if incBit s ∧ s.count.toNat < 2 ^ s.params.countW - 1 then s.count + 1 else s.count

/-- The event path of R61 in a cycle without a drain. -/
def EventPath (s t : State) : Prop :=
  EventSampled s t ∧ EventCounted s t

/-- LEVEL, TIPS and CTRL.LVL_SAT, the operands of an encode, are as before. -/
def SameOperands (s t : State) : Prop :=
  t.lvlSat = s.lvlSat ∧ t.level = s.level ∧ t.tips = s.tips

/-- STATUS, FRAME_A and FRAME_B, the result of an encode, are as before. -/
def SameResult (s t : State) : Prop :=
  t.nwritten = s.nwritten ∧ t.capErr = s.capErr ∧ t.frameValid = s.frameValid ∧
  t.frameA = s.frameA ∧ t.frameB = s.frameB

/-- Every register of the encoder is as before. -/
def SameEncoder (s t : State) : Prop :=
  SameOperands s t ∧ SameResult s t

/-- SYNC, PREV and COUNT are as before. -/
def SameAccumulator (s t : State) : Prop :=
  t.count = s.count ∧ t.sync = s.sync ∧ t.prev = s.prev

/-- The parameters and everything outside the block are as before. -/
def SameOutside (s t : State) : Prop :=
  t.params = s.params ∧ t.evtIn = s.evtIn ∧ t.cycle = s.cycle ∧ t.script = s.script ∧
  t.hostVars = s.hostVars

/-- Every element of R35 is 0, and so is `rdata` (R140). -/
def AllZero (t : State) : Prop :=
  t.count = 0 ∧ t.sync = List.replicate t.params.syncStages false ∧ t.prev = false ∧
  t.lvlSat = false ∧ t.level = 0 ∧ t.tips = 0 ∧ t.nwritten = 0 ∧ t.capErr = false ∧
  t.frameValid = false ∧ t.frameA = 0 ∧ t.frameB = 0 ∧ t.rdata = 0

/-! ### The cycle of R61, written over the ports -/

/-- `ReadValue(idx)` by the table of R52, as numbers. -/
def portRead (s : State) (idx : Nat) : Nat :=
  match idx with
  | 0 => s.lvlSat.toNat
  | 1 => s.count.toNat
  | 2 => s.level.toNat
  | 3 => s.tips.toNat
  | 4 => 0
  | 5 => 512 * s.frameValid.toNat + 256 * s.capErr.toNat + s.nwritten.toNat
  | 6 => s.frameA.toNat
  | _ => s.frameB.toNat

/-- `Step(S, rst, sel, we, idx, wdata, samp)`: R140 if `rst` is 1, else the
simultaneous assignments of R61, R105, R107, R109 and R110, every right-hand
side over the state before the edge. -/
def portStep (s : State) (rst sel we : Bool) (idx : Nat) (wdata : Word) (samp : Bool) : State :=
  let n := s.params.syncStages
  let inc := s.sync.getD (n - 1) false && !s.prev
  let drain := sel && !we && idx == 1
  let wr := fun r : Nat => sel && we && idx == r
  let fits := 6 ≤ wdata.toNat
  let f := encodeFrame s.lvlSat s.level s.tips
  { s with
    count :=
      if rst then 0
      else if drain then (if inc then 1 else 0)
      else if inc && s.count.toNat < 2 ^ s.params.countW - 1 then s.count + 1 else s.count
    sync :=
      (List.range n).map fun i =>
        if rst then false else if i = 0 then samp else s.sync.getD (i - 1) false
    prev := if rst then false else s.sync.getD (n - 1) false
    lvlSat := if rst then false else if wr 0 then wdata.getLsbD 0 else s.lvlSat
    level := if rst then 0 else if wr 2 then wdata else s.level
    tips := if rst then 0 else if wr 3 then wdata else s.tips
    nwritten := if rst then 0 else if wr 4 then (if fits then 6 else 0) else s.nwritten
    capErr := if rst then false else if wr 4 then !fits else s.capErr
    frameValid := if rst then false else if wr 4 && fits then true else s.frameValid
    frameA := if rst then 0 else if wr 4 && fits then packA f else s.frameA
    frameB := if rst then 0 else if wr 4 && fits then packB f else s.frameB
    rdata := if !rst && sel && !we then BitVec.ofNat 32 (portRead s idx) else 0 }

/-! ### Runs over given inputs -/

/-- The cycles of a list of inputs, in order (R8). -/
def runInputs : List CycleInput → State → Host.Outcome State Fault Refusal
  | [], s => .next s
  | p :: ps, s =>
    match runCycle p s with
    | .next t => runInputs ps t
    | .fault r => .fault r
    | .refused r => .refused r

/-- A reset cycle (R51). -/
def isResetCycle (p : CycleInput) : Bool :=
  p.control.getLsbD 5

/-- A cycle that reads DRAIN: `CW = 010001` (R53). -/
def isDrainCycle (p : CycleInput) : Bool :=
  p.control == 0b010001

/-- The sum of what the drains of a run return on `rdata` (R64, R66). -/
def returned : List CycleInput → State → Nat
  | [], _ => 0
  | p :: ps, s =>
    match runCycle p s with
    | .next t => (if isDrainCycle p then t.rdata.toNat else 0) + returned ps t
    | .fault _ => 0
    | .refused _ => 0

/-- "Assume COUNT never saturates" (R66): at every edge of the run at which an
increment is added to COUNT, COUNT is below `2^COUNT_W - 1`. At the edge of a
drain nothing is added to it (R64), so it may hold any value there. -/
def NeverSaturates (ps : List CycleInput) (s : State) : Prop :=
  ∀ (qs rest : List CycleInput) (p : CycleInput) (t : State), ps = qs ++ p :: rest →
    runInputs qs s = .next t → incBit t = true → isDrainCycle p = false →
    t.count.toNat < 2 ^ t.params.countW - 1

/-- The number of edges of a run at which `inc` was true (R66). -/
def increments : List CycleInput → State → Nat
  | [], _ => 0
  | p :: ps, s =>
    match runCycle p s with
    | .next t => (if incBit s then 1 else 0) + increments ps t
    | .fault _ => 0
    | .refused _ => 0

end Sys2Proof.Machine
end

