-- ==== Sys2Proof/Certificates/Slice0/Obligations.lean ====
section
/-! DEFINITION. Statements about the EAFE model, each from the spec's numbered rules. -/

open Sys2Proof Sys2Proof.Machine

/-! ### Reset and the whole cycle -/

/-- R140: in a cycle with `rst = 1`, whatever else the control inputs, the write
data and the pin hold, every element of R35 takes its reset value 0 and `rdata`
is 0; `RESET` itself does so from every state. -/
def Obligations.ResetZeroesEveryElement : Prop :=
  (∀ s : State, ∃ t, exec .reset s = .next t ∧ AllZero t ∧ SameOutside s t) ∧
  ∀ (p : CycleInput) (s : State), p.control.getLsbD 5 = true →
    ∃ t, runCycle p s = .next t ∧ AllZero t ∧ t.params = s.params ∧ t.script = s.script ∧
      t.hostVars = s.hostVars

/-- R35: the machine right after reset has 0 in every element. The parameter
values are those R6 assumes; that BASE_ADDR is then some value is the model's
choice (log entry 4), and this statement names none. -/
def Obligations.ResetStateIsZero : Prop :=
  AllZero State.reset ∧ State.reset.params.countW = 32 ∧ State.reset.params.syncStages = 2

/-- R61, R140, R110: one cycle is the simultaneous assignment of the spec's whole
step, written over `rst`, `sel`, `we`, `idx`, `wdata` and the sample: with `rst`
1 that of R140, otherwise that of R61 with the write effects of R105, R107, R109
and R110. The invariant gives the number of synchronizer stages. -/
def Obligations.CycleIsTheSimultaneousStep : Prop :=
  ∀ (p : CycleInput) (s : State), s.Inv →
    runCycle p s =
      .next (portStep (beginCycle p s) (p.control.getLsbD 5) (p.control.getLsbD 4)
        (p.control.getLsbD 3) (p.control.extractLsb' 0 3).toNat p.wdata
        (sampleOf p.evt (s.cycle + 1)))

/-- R9, R70: no operation can be stalled, refused or end in a fault: each has
a successor in every state. -/
def Obligations.EveryOperationHasASuccessor : Prop :=
  ∀ (i : Instr) (s : State), ∃ t, exec i s = .next t

/-- The invariant holds after reset. -/
def Obligations.ResetStateMeetsInvariant : Prop :=
  State.reset.Inv

/-- Every step keeps the invariant, whatever the host presents (R6, R21, R22,
R27, R29, R103). -/
def Obligations.EveryStepKeepsInvariant : Prop :=
  ∀ s t : State, s.Inv → step s = .next t → t.Inv

/-- R6, R57: a step changes neither the parameters nor, but for the variable
that its cycle names, a host variable; and it takes one pending cycle. R57 lets
a read name a variable. That the variable of a cycle that is no read takes
`rdata` too is the model's choice (log entry 12), and so is the list of pending
cycles (log entry 1). -/
def Obligations.StepTakesOnePendingCycle : Prop :=
  ∀ (c : HostCycle) (rest : List HostCycle) (s t : State),
    s.script = c :: rest → step s = .next t →
    t.params = s.params ∧ t.script = rest ∧ t.cycle = s.cycle + 1 ∧
    (∀ v : HostVar, c.dst = some v → t.hostVars[v] = some t.rdata) ∧
    ∀ v : HostVar, c.dst ≠ some v → t.hostVars[v] = s.hostVars[v]

/-- The step runs the operation that the first pending cycle presents: its
control inputs are decoded and executed with the pin at its level and the cycle
index moved on, and then the host variable takes `rdata`. That a cycle's inputs
stand in a list of pending cycles is the model's choice (log entry 1), and so is
that a variable named by a cycle that is no read takes `rdata` (log entry 12);
R57 says it of reads. -/
def Obligations.StepRunsDecodedOperation : Prop :=
  ∀ (c : HostCycle) (rest : List HostCycle) (s : State) (p : CycleInput),
    s.script = c :: rest → busInputs c s = .ok p →
    step s = afterCycle c.dst
      (exec (decodeControl p.control p.wdata)
        { s with script := rest, cycle := s.cycle + 1, evtIn := p.evt })

/-- With nothing pending, the cycle's inputs are free: the step is the cycle of
R8 on whatever they are. The free value is the model's choice of form (log entry 2). -/
def Obligations.StepWithNothingPendingIsFree : Prop :=
  ∀ s : State, s.script = [] → step s = runCycle (Config.freeInput (s.cycle + 1)) s

/-! ### The event path -/

/-- R62: an idle cycle runs the event path and changes nothing else; `rdata` is 0. -/
def Obligations.IdleRunsTheEventPath : Prop :=
  ∀ s : State, ∃ t, exec .idle s = .next t ∧
    t.rdata = 0 ∧ EventPath s t ∧ SameEncoder s t ∧ SameOutside s t

/-- R63, R71: the event increment adds one to COUNT exactly when the EVT condition
holds, and holds it at `2^COUNT_W - 1`. That `EVT` leaves everything else as it
is, SYNC, PREV and `rdata` among it, is the model's reading of it as the
increment alone (log entry 9): the cycle it shares samples the input as well. -/
def Obligations.EventIncrementSaturates : Prop :=
  ∀ s : State, AccumulatorInv s → ∃ t, exec .evt s = .next t ∧
    t.count.toNat =
      (if s.sync.getD (s.params.syncStages - 1) false = true ∧ s.prev = false
        then min (s.count.toNat + 1) (2 ^ s.params.countW - 1) else s.count.toNat) ∧
    t.sync = s.sync ∧ t.prev = s.prev ∧ t.rdata = s.rdata ∧ SameEncoder s t ∧ SameOutside s t

/-- R64: a drain returns the count before the edge and clears it; an increment
at the same edge lands after the reset point. With COUNT within `COUNT_W` bits,
so is what is returned. -/
def Obligations.DrainReturnsAndClearsCount : Prop :=
  ∀ s : State, ∃ t, exec .rdDrain s = .next t ∧
    t.rdata = s.count ∧ t.count = (if incBit s then 1 else 0) ∧
    (AccumulatorInv s → t.rdata.toNat < 2 ^ s.params.countW) ∧
    EventSampled s t ∧ SameEncoder s t ∧ SameOutside s t

/-- R65: a write to DRAIN has no effect; COUNT follows the event path as in an
idle cycle, with the same result as an idle cycle. -/
def Obligations.WriteDrainIsAnIdleCycle : Prop :=
  ∀ (w : Word) (s : State), exec (.wrDrain w) s = exec .idle s ∧
    ∃ t, exec (.wrDrain w) s = .next t ∧
      t.rdata = 0 ∧ EventPath s t ∧ SameEncoder s t ∧ SameOutside s t

/-- R61, R122: beside every non-reset operation but a drain, COUNT takes the
same value as by the event increment alone. -/
def Obligations.EventLandsBesideEveryOperation : Prop :=
  ∀ (i : Instr) (s t u : State), i ≠ .reset → i ≠ .rdDrain →
    exec i s = .next t → exec .evt s = .next u → t.count = u.count

/-- R61, R70: the event path is evaluated whatever the bus does: SYNC and PREV
after two non-reset cycles from one state are the same. -/
def Obligations.SamplingIgnoresTheBus : Prop :=
  ∀ (p q : CycleInput) (s t u : State), p.control.getLsbD 5 = false →
    q.control.getLsbD 5 = false → p.evt = q.evt →
    runCycle p s = .next t → runCycle q s = .next u → t.sync = u.sync ∧ t.prev = u.prev

/-- R34, R47: only a drain or reset can lower COUNT (with legal parameters: a
`COUNT_W` above 32 is none). -/
def Obligations.OnlyDrainOrResetLowersCount : Prop :=
  ∀ (i : Instr) (s t : State), s.params.Legal → exec i s = .next t →
    t.count.toNat < s.count.toNat → i = .rdDrain ∨ i = .reset

/-- R63 (latency), R60: after `SYNC_STAGES + 1` non-reset cycles, the EVT
condition holds exactly if the first of them sampled 0 and the second 1. So a
rising edge first sampled at edge k makes `inc` true in cycle `k + SYNC_STAGES`,
and nothing else makes it true. -/
def Obligations.RisingEdgeIsDueAfterSyncStages : Prop :=
  ∀ (p q : CycleInput) (ps : List CycleInput) (s t : State), AccumulatorInv s →
    ps.length + 1 = s.params.syncStages → (∀ r ∈ p :: q :: ps, isResetCycle r = false) →
    runInputs (p :: q :: ps) s = .next t →
    (incBit t = true ↔
      sampleOf p.evt (s.cycle + 1) = false ∧ sampleOf q.evt (s.cycle + 2) = true)

/-- R142, R63: with `evt_in` high from reset on, the high level counts once: COUNT
is 0 until edge `r + 1 + SYNC_STAGES`, where r is the reset edge, and 1 from
then on, whatever the bus does but drain and reset. -/
def Obligations.HighThroughResetCountsOnce : Prop :=
  ∀ (p : CycleInput) (ps : List CycleInput) (s t : State), s.params.Legal →
    isResetCycle p = true →
    (∀ r ∈ ps, isResetCycle r = false ∧ isDrainCycle r = false ∧ r.evt = .high) →
    runInputs (p :: ps) s = .next t →
    t.count = if s.params.syncStages + 1 ≤ ps.length then 1 else 0

/-- R66: over any run of non-reset cycles in which COUNT never saturates, however
many increments its drains return in all, what the drains return and what is
left in COUNT are together what COUNT held at the start and the increments of
the run: no increment is lost or returned twice. -/
def Obligations.EventsAreConserved : Prop :=
  ∀ (ps : List CycleInput) (s : State), AccumulatorInv s →
    (∀ p ∈ ps, isResetCycle p = false) → NeverSaturates ps s →
    ∃ t, runInputs ps s = .next t ∧
      returned ps s + t.count.toNat = s.count.toNat + increments ps s

/-- R66: a drain after a run of non-reset cycles without a drain returns what
COUNT held at the start and the increments of the run, an increment at the
drain's own edge apart; that one is left in COUNT. -/
def Obligations.DrainReturnsIncrementsBeforeIt : Prop :=
  ∀ (ps : List CycleInput) (d : CycleInput) (s : State), AccumulatorInv s →
    (∀ p ∈ ps, isResetCycle p = false ∧ isDrainCycle p = false) → isDrainCycle d = true →
    s.count.toNat + increments ps s < 2 ^ s.params.countW →
    ∃ t, runInputs (ps ++ [d]) s = .next t ∧
      t.rdata.toNat = s.count.toNat + increments ps s ∧
      t.count.toNat + increments ps s = increments (ps ++ [d]) s

/-! ### CTRL, LEVEL and TIPS -/

/-- R104: a read of CTRL returns LVL_SAT in bit 0 and 0 in every other bit. -/
def Obligations.ReadCtrlReturnsPolicy : Prop :=
  ∀ s : State, ∃ t, exec .rdCtrl s = .next t ∧
    t.rdata = (if s.lvlSat then 1 else 0) ∧ EventPath s t ∧ SameEncoder s t ∧ SameOutside s t

/-- R105: a write to CTRL sets LVL_SAT to bit 0 and ignores the others; the
frame held is not encoded again. -/
def Obligations.WriteCtrlSetsPolicy : Prop :=
  ∀ (w : Word) (s : State), ∃ t, exec (.wrCtrl w) s = .next t ∧
    t.lvlSat = w.getLsbD 0 ∧ t.level = s.level ∧ t.tips = s.tips ∧ t.rdata = 0 ∧
    SameResult s t ∧ EventPath s t ∧ SameOutside s t

/-- R106: a read of LEVEL returns all 32 bits of it. -/
def Obligations.ReadLevelReturnsLevel : Prop :=
  ∀ s : State, ∃ t, exec .rdLevel s = .next t ∧
    t.rdata = s.level ∧ EventPath s t ∧ SameEncoder s t ∧ SameOutside s t

/-- R107: a write to LEVEL stores all 32 bits. -/
def Obligations.WriteLevelStoresLevel : Prop :=
  ∀ (w : Word) (s : State), ∃ t, exec (.wrLevel w) s = .next t ∧
    t.level = w ∧ t.lvlSat = s.lvlSat ∧ t.tips = s.tips ∧ t.rdata = 0 ∧
    SameResult s t ∧ EventPath s t ∧ SameOutside s t

/-- R108: a read of TIPS returns all 32 bits of it. -/
def Obligations.ReadTipsReturnsTips : Prop :=
  ∀ s : State, ∃ t, exec .rdTips s = .next t ∧
    t.rdata = s.tips ∧ EventPath s t ∧ SameEncoder s t ∧ SameOutside s t

/-- R109: a write to TIPS stores all 32 bits and does not touch COUNT. -/
def Obligations.WriteTipsStoresTips : Prop :=
  ∀ (w : Word) (s : State), ∃ t, exec (.wrTips w) s = .next t ∧
    t.tips = w ∧ t.lvlSat = s.lvlSat ∧ t.level = s.level ∧ t.rdata = 0 ∧
    SameResult s t ∧ EventPath s t ∧ SameOutside s t

/-! ### The encode -/

/-- R110: with a capacity below 6, STATUS reports the error and nothing else of
the encoder is written; from 6 on, the frame of LEVEL and TIPS under the policy,
all before the edge, is written and STATUS reports 6 bytes. COUNT is neither
read nor changed but by the event path. -/
def Obligations.EncodeWritesFrameOrReportsError : Prop :=
  ∀ (w : Word) (s : State), ∃ t, exec (.wrEncode w) s = .next t ∧
    (w.toNat < 6 →
      t.nwritten = 0 ∧ t.capErr = true ∧ t.frameValid = s.frameValid ∧
      t.frameA = s.frameA ∧ t.frameB = s.frameB) ∧
    (6 ≤ w.toNat →
      t.frameA = packA (encodeFrame s.lvlSat s.level s.tips) ∧
      t.frameB = packB (encodeFrame s.lvlSat s.level s.tips) ∧
      t.nwritten = 6 ∧ t.capErr = false ∧ t.frameValid = true) ∧
    t.rdata = 0 ∧ SameOperands s t ∧ EventPath s t ∧ SameOutside s t

/-- R41, R110: an encode repeated with LEVEL, TIPS and CTRL unchanged leaves the
encoder as the first left it. -/
def Obligations.RepeatedEncodeChangesNothing : Prop :=
  ∀ (w : Word) (s t u : State), exec (.wrEncode w) s = .next t →
    exec (.wrEncode w) t = .next u → SameEncoder t u

/-- R100: the wrap policy takes the low 16 bits; the saturate policy clamps the
two's-complement value to the signed 16-bit range. -/
def Obligations.LevelFieldWrapsOrSaturates : Prop :=
  (∀ l : Word, (level16 false l).toNat = l.toNat % 65536) ∧
  (∀ l : Word, (level16 true l).toInt = max (-32768) (min 32767 l.toInt)) ∧
  ∀ l : Word, -32768 ≤ l.toInt → l.toInt ≤ 32767 → level16 true l = level16 false l

/-- R101: the tips field is the count clamped to 65535. -/
def Obligations.TipsFieldSaturates : Prop :=
  ∀ n : Word, (tips16 n).toNat = min n.toNat 65535

/-- R102: the parameters of CRC-16/CCITT-FALSE: initial value 0xFFFF; eight
shifts per byte, most significant bit first, with polynomial 0x1021 where the
bit shifted out is 1; and the catalogue's check value over "123456789". -/
def Obligations.ChecksumIsCcittFalse : Prop :=
  crc16 [] = 0xFFFF ∧
  (∀ c : Half, crcShift c =
    if c.getLsbD 15 then (c <<< 1) ^^^ 0x1021 else c <<< 1) ∧
  (∀ (bs : List Byte) (b : Byte), crc16 (bs ++ [b]) =
    (crcShift^[8]) (crc16 bs ^^^ (b ++ (0 : Byte)))) ∧
  crc16 [0x31, 0x32, 0x33, 0x34, 0x35, 0x36, 0x37, 0x38, 0x39] = 0x29B1

/-- R103, R36: the frame's bytes are its two fields and the checksum of the
first four bytes, each big-endian. -/
def Obligations.FrameIsBigEndian : Prop :=
  ∀ (sat : Bool) (l n : Word) (f : Frame), f = encodeFrame sat l n →
    256 * f.b0.toNat + f.b1.toNat = (level16 sat l).toNat ∧
    256 * f.b2.toNat + f.b3.toNat = (tips16 n).toNat ∧
    256 * f.b4.toNat + f.b5.toNat = (crc16 [f.b0, f.b1, f.b2, f.b3]).toNat

/-- R29, R37: reading FRAME_A and FRAME_B most significant byte first gives the
frame's bytes in wire order; FRAME_A is `{level16, tips16}` and FRAME_B the
checksum, as numbers. -/
def Obligations.FrameRegistersKeepWireOrder : Prop :=
  ∀ (sat : Bool) (l n : Word),
    (unpackFrame (packA (encodeFrame sat l n)) (packB (encodeFrame sat l n))).bytes =
      (encodeFrame sat l n).bytes ∧
    (packA (encodeFrame sat l n)).toNat =
      65536 * (level16 sat l).toNat + (tips16 n).toNat ∧
    (packB (encodeFrame sat l n)).toNat =
      (crc16 [(encodeFrame sat l n).b0, (encodeFrame sat l n).b1, (encodeFrame sat l n).b2,
        (encodeFrame sat l n).b3]).toNat

/-- The frame is intact: the checksum run over all six bytes of a frame comes to
0 (derived from R102 and R103). -/
def Obligations.ChecksumOverTheFrameIsZero : Prop :=
  ∀ (sat : Bool) (l n : Word), crc16 (encodeFrame sat l n).bytes = 0

/-! ### ENCODE, STATUS and the frame registers -/

/-- R111: a read of ENCODE returns 0 and starts nothing. -/
def Obligations.ReadEncodeReturnsZero : Prop :=
  ∀ s : State, ∃ t, exec .rdEncode s = .next t ∧
    t.rdata = 0 ∧ EventPath s t ∧ SameEncoder s t ∧ SameOutside s t

/-- R112: a read of STATUS returns its three fields and clears none of them. -/
def Obligations.ReadStatusReturnsFields : Prop :=
  ∀ s : State, ∃ t, exec .rdStatus s = .next t ∧
    t.rdata.extractLsb' 0 8 = s.nwritten ∧ t.rdata.getLsbD 8 = s.capErr ∧
    t.rdata.getLsbD 9 = s.frameValid ∧ t.rdata.extractLsb' 10 22 = 0 ∧
    EventPath s t ∧ SameEncoder s t ∧ SameOutside s t

/-- R113: a write to STATUS has no effect. -/
def Obligations.WriteStatusIsIgnored : Prop :=
  ∀ (w : Word) (s : State), ∃ t, exec (.wrStatus w) s = .next t ∧
    t.rdata = 0 ∧ EventPath s t ∧ SameEncoder s t ∧ SameOutside s t

/-- R114: a read of FRAME_A returns frame bytes 0 to 3. -/
def Obligations.ReadFrameAReturnsBytes : Prop :=
  ∀ s : State, ∃ t, exec .rdFrameA s = .next t ∧
    t.rdata = s.frameA ∧ EventPath s t ∧ SameEncoder s t ∧ SameOutside s t

/-- R115: a write to FRAME_A has no effect. -/
def Obligations.WriteFrameAIsIgnored : Prop :=
  ∀ (w : Word) (s : State), ∃ t, exec (.wrFrameA w) s = .next t ∧
    t.rdata = 0 ∧ EventPath s t ∧ SameEncoder s t ∧ SameOutside s t

/-- R116: a read of FRAME_B returns frame bytes 4 and 5, with bits 31:16 zero;
where a frame is held, that is the checksum of bytes 0 to 3 as a number. -/
def Obligations.ReadFrameBReturnsBytes : Prop :=
  ∀ s : State, ∃ t, exec .rdFrameB s = .next t ∧
    t.rdata.extractLsb' 0 16 = s.frameB ∧ t.rdata.extractLsb' 16 16 = 0 ∧
    (FrameInv s → s.frameValid = true → t.rdata.toNat =
      (crc16 [s.frameA.extractLsb' 24 8, s.frameA.extractLsb' 16 8,
        s.frameA.extractLsb' 8 8, s.frameA.extractLsb' 0 8]).toNat) ∧
    EventPath s t ∧ SameEncoder s t ∧ SameOutside s t

/-- R117: a write to FRAME_B has no effect. -/
def Obligations.WriteFrameBIsIgnored : Prop :=
  ∀ (w : Word) (s : State), ∃ t, exec (.wrFrameB w) s = .next t ∧
    t.rdata = 0 ∧ EventPath s t ∧ SameEncoder s t ∧ SameOutside s t

/-- R28, R115: STATUS and the frame registers change by `WR ENCODE` and by
reset alone, and the frame and FRAME_VALID by an encode only if it has room. -/
def Obligations.OnlyEncodeOrResetWritesResult : Prop :=
  ∀ (i : Instr) (s t : State), exec i s = .next t → i ≠ .reset →
    ((∀ w, i ≠ .wrEncode w) → SameResult s t) ∧
    ∀ w, i = .wrEncode w → w.toNat < 6 →
      t.frameValid = s.frameValid ∧ t.frameA = s.frameA ∧ t.frameB = s.frameB

/-- R27: only reset clears FRAME_VALID. -/
def Obligations.OnlyResetClearsFrameValid : Prop :=
  ∀ (i : Instr) (s t : State), exec i s = .next t → s.frameValid = true →
    t.frameValid = false → i = .reset

/-- R44, R151: a write is seen by a read in the next cycle, in every state and
whatever the pin does: LEVEL and TIPS whole, CTRL in its bit 0. -/
def Obligations.WriteIsReadInTheNextCycle : Prop :=
  ∀ (w v : Word) (e f : PinLevel) (s : State),
    (∃ t, runInputs [⟨0b011010, w, e⟩, ⟨0b010010, v, f⟩] s = .next t ∧ t.rdata = w) ∧
    (∃ t, runInputs [⟨0b011011, w, e⟩, ⟨0b010011, v, f⟩] s = .next t ∧ t.rdata = w) ∧
    ∃ t, runInputs [⟨0b011000, w, e⟩, ⟨0b010000, v, f⟩] s = .next t ∧
      t.rdata = if w.getLsbD 0 then 1 else 0

/-- R110, R112: STATUS read in the cycle after an encode: `0x206` after a success,
and after a capacity error `0x300` if a frame is held and `0x100` if none is. -/
def Obligations.StatusTellsOfTheLastEncode : Prop :=
  ∀ (w v : Word) (e f : PinLevel) (s : State),
    ∃ t, runInputs [⟨0b011100, w, e⟩, ⟨0b010101, v, f⟩] s = .next t ∧
      t.rdata = if 6 ≤ w.toNat then 0x206 else if s.frameValid then 0x300 else 0x100

/-- R110 (derived): the encoder cannot see the accumulator. Two states that
agree on the encoder's registers agree on them after any operation. -/
def Obligations.EncoderIgnoresTheAccumulator : Prop :=
  ∀ (i : Instr) (s t s' t' : State), SameEncoder s t →
    exec i s = .next s' → exec i t = .next t' → SameEncoder s' t'

/-- R26, R110 (derived): the accumulator cannot see the encoder. Two states that
agree on the accumulator, the parameters and the pin agree on the accumulator
after any operation, and a drain returns the same count from both. -/
def Obligations.AccumulatorIgnoresTheEncoder : Prop :=
  ∀ (i : Instr) (s t s' t' : State), SameAccumulator s t → t.params = s.params →
    t.evtIn = s.evtIn → t.cycle = s.cycle →
    exec i s = .next s' → exec i t = .next t' →
    SameAccumulator s' t' ∧ (i = .rdDrain → s'.rdata = t'.rdata)

/-- R144 (derived): a frame that STATUS declares usable carries the checksum of
its first four bytes. -/
def Obligations.UsableFrameCarriesItsChecksum : Prop :=
  ∀ s : State, s.Inv → FrameUsable s → crc16 (unpackFrame s.frameA s.frameB).bytes = 0

/-! ### Encoding -/

/-- Decoding the byte record of a well-formed operation gives it back, with
every bit of its write data, and leaves the bytes behind it. The record is the
model's form (log entry 8); its control words are the opcode map's (R53). -/
def Obligations.DecodeOfEncodeIsIdentity : Prop :=
  ∀ (i : Instr) (rest : List Byte), i.wellFormed = true →
    decodeBytes (encode i ++ rest) = .ok (i, rest)

/-- R53, R54: every control word decodes, to a well-formed operation in whose
row of the opcode map it lies; and to every operation in whose row it lies, but
EVT, which no control word selects, it decodes with that operation's data. -/
def Obligations.OpcodeMapIsTotalAndUnambiguous : Prop :=
  (∀ (cw : ControlWord) (w : Word), (decodeControl cw w).wellFormed = true ∧
    cw &&& (opcodeRow (decodeControl cw w)).2 = (opcodeRow (decodeControl cw w)).1) ∧
  ∀ (cw : ControlWord) (i : Instr), i.wellFormed = true →
    cw &&& (opcodeRow i).2 = (opcodeRow i).1 → decodeControl cw (encodeData i) = i

/-- Words written out from the opcode map (R53) decode to their operations. -/
def Obligations.WrittenOutWordsDecode : Prop :=
  decodeControl 0b110001 0 = .reset ∧ decodeControl 0b001111 0 = .idle ∧
  decodeControl 0b010001 0 = .rdDrain ∧ decodeControl 0b011010 0x1F4 = .wrLevel 0x1F4 ∧
  decodeControl 0b011100 6 = .wrEncode 6 ∧ decodeControl 0b010111 0 = .rdFrameB

/-- A byte record is refused by name only when it is too short or when its
control byte holds more than a control word (log entry 8). -/
def Obligations.DecoderRefusesByName : Prop :=
  (∀ bs : List Byte, bs.length < 5 → decodeBytes bs = .error .truncated) ∧
  ∀ (c w0 w1 w2 w3 : Byte) (rest : List Byte),
    (64 ≤ c.toNat → decodeBytes (c :: w0 :: w1 :: w2 :: w3 :: rest) = .error .notAControlWord) ∧
    (c.toNat < 64 → ∃ i, decodeBytes (c :: w0 :: w1 :: w2 :: w3 :: rest) = .ok (i, rest))

/-! ### The host -/

/-- R39, R150: a host access that is narrower than 32 bits or misaligned is
refused, and nothing runs. Which refusal is named when an access is misaligned
and of another width is the model's choice (log entry 10). -/
def Obligations.NarrowOrMisalignedAccessIsRefused : Prop :=
  ∀ (s : State) (a bits : Nat) (v : Data) (dst : Option HostVar)
    (e : PinLevel) (rest : List HostCycle), bits < 32 ∨ a % 4 ≠ 0 →
    (s.script = ⟨.load a bits, dst, e⟩ :: rest ∨
      s.script = ⟨.store a bits v, dst, e⟩ :: rest) →
    step s = .refused .narrowAccess ∨ step s = .refused .misalignedAccess ∨
      (32 < bits ∧ step s = .refused .wideAccess)

/-- R38, R73: a host access of any width but 32 bits is refused, whatever its
address and data, and nothing runs. The two names are the model's choice (log
entry 10). -/
def Obligations.AccessOfAnotherWidthIsRefused : Prop :=
  ∀ (s : State) (a bits : Nat) (v : Data) (dst : Option HostVar) (e : PinLevel)
    (rest : List HostCycle), bits ≠ 32 →
    (s.script = ⟨.load a bits, dst, e⟩ :: rest ∨
      s.script = ⟨.store a bits v, dst, e⟩ :: rest) →
    step s = .refused (if bits < 32 then .narrowAccess else .wideAccess)

/-- R73: an aligned 32-bit host access at an address that is not in
`[BASE_ADDR, BASE_ADDR + 0x1F]` does not reach the block. That it is a fault,
and its name, are the model's choice (log entry 10). -/
def Obligations.AccessOutsideTheWindowFaults : Prop :=
  ∀ (s : State) (a : Nat) (v : Data) (dst : Option HostVar) (e : PinLevel)
    (rest : List HostCycle), a % 4 = 0 →
    (a < s.params.baseAddr ∨ s.params.baseAddr + 0x1F < a) →
    (s.script = ⟨.load a 32, dst, e⟩ :: rest ∨ s.script = ⟨.store a 32 v, dst, e⟩ :: rest) →
    step s = .fault .outsideWindow

/-- R73: an aligned 32-bit host load at register `r`'s address, BASE_ADDR plus
four times its index, is a `RD` of `r`, and a store there is a `WR` of `r` with
the store's data, an immediate or what a host variable holds (R57). -/
def Obligations.HostAccessReachesItsRegister : Prop :=
  ∀ (s : State) (r : Reg) (v : Word) (dst : Option HostVar) (e : PinLevel),
    s.params.Legal →
    (busInputs ⟨.load (s.params.baseAddr + 4 * r.idx.toNat) 32, dst, e⟩ s).map
        (fun p => (decodeControl p.control p.wdata, p.evt)) = .ok (readOf r, e) ∧
    (busInputs ⟨.store (s.params.baseAddr + 4 * r.idx.toNat) 32 (.imm v), dst, e⟩ s).map
        (fun p => (decodeControl p.control p.wdata, p.evt)) = .ok (writeOf r v, e) ∧
    ∀ x : HostVar, s.hostVars[x] = some v →
      (busInputs ⟨.store (s.params.baseAddr + 4 * r.idx.toNat) 32 (.var x), dst, e⟩ s).map
        (fun p => (decodeControl p.control p.wdata, p.evt)) = .ok (writeOf r v, e)

/-- R57: writing from a host variable that holds no value is an error of the
script; from one that holds a value, the step is the cycle that writes that
value. Both for a `wr` of a register and for a host store at its address (R73).
That the error is a refusal of the step is the model's reading (log entry 11). -/
def Obligations.UnwrittenVariableIsAnError : Prop :=
  ∀ (s : State) (r : Reg) (x : HostVar) (e : Bool) (rest : List HostCycle),
    (s.script = cycleWr r (.var x) e :: rest ∨
      s.params.Legal ∧ s.script =
        ⟨.store (s.params.baseAddr + 4 * r.idx.toNat) 32 (.var x), none, levelOf e⟩ :: rest) →
    (s.hostVars[x] = none → step s = .refused .unwrittenHostVariable) ∧
    ∀ v, s.hostVars[x] = some v →
      step s = runCycle ⟨busWord true r.idx, v, levelOf e⟩ { s with script := rest }

/-- R57: each plain statement emits cycles that present its operation: `rst` a
reset, `idle n` n idle cycles, `rd REG` a read of REG whose `rdata` goes to the
variable named, `wr REG, v` a write of `v` to REG, with the line's sample. -/
def Obligations.StatementsPresentTheirOperations : Prop :=
  ∀ (s : State) (e : Bool) (n : Nat) (r : Reg) (d : Option HostVar) (v : Word),
    (∃ c p, (Stmt.rst).cycles e = [c] ∧ busInputs c s = .ok p ∧ c.dst = none ∧
      decodeControl p.control p.wdata = .reset ∧ p.evt = levelOf e) ∧
    (∃ c p, (Stmt.idle n).cycles e = List.replicate n c ∧ busInputs c s = .ok p ∧
      c.dst = none ∧ decodeControl p.control p.wdata = .idle ∧ p.evt = levelOf e) ∧
    (∃ c p, (Stmt.rd r d).cycles e = [c] ∧ busInputs c s = .ok p ∧ c.dst = d ∧
      decodeControl p.control p.wdata = readOf r ∧ p.evt = levelOf e) ∧
    ∃ c p, (Stmt.wr r (.imm v)).cycles e = [c] ∧ busInputs c s = .ok p ∧ c.dst = none ∧
      decodeControl p.control p.wdata = writeOf r v ∧ p.evt = levelOf e

/-- R58: each pseudo-instruction emits the cycles of its expansion, in order;
`tip` carries the samples of its own expansion, whatever the line's (log entry 13). -/
def Obligations.PseudoInstructionsExpand : Prop :=
  ∀ (e : Bool) (lvl v n : Data) (t ts ta tb : HostVar),
    (Stmt.drain t).cycles e = (Stmt.rd .drain (some t)).cycles e ∧
    (Stmt.policyWrap).cycles e = (Stmt.wr .ctrl (.imm 0)).cycles e ∧
    (Stmt.policySat).cycles e = (Stmt.wr .ctrl (.imm 1)).cycles e ∧
    (Stmt.reading lvl v).cycles e =
      (Stmt.wr .level lvl).cycles e ++ (Stmt.wr .tips v).cycles e ∧
    (Stmt.encode n).cycles e = (Stmt.wr .encode n).cycles e ∧
    (Stmt.frame ta tb).cycles e =
      (Stmt.rd .frameA (some ta)).cycles e ++ (Stmt.rd .frameB (some tb)).cycles e ∧
    (Stmt.tip).cycles e = (Stmt.idle 2).cycles true ++ (Stmt.idle 2).cycles false ∧
    (Stmt.cycle lvl ts ta tb).cycles e =
      (Stmt.drain ts).cycles e ++ (Stmt.reading lvl (.var ts)).cycles e ++
        (Stmt.encode (.imm 6)).cycles e ++ (Stmt.rd .status (some ts)).cycles e ++
        (Stmt.frame ta tb).cycles e
end

