-- ==== Sys2Proof/Laws/State.lean ====
section
/-! SUPPORT. One lemma per field of the state and per update of it, so that no
proof unfolds a record update, and the event condition across the updates. -/

namespace Sys2Proof.Machine

/-! `driveRdata` -/

@[simp] theorem driveRdata_params (v : Word) (s : State) :
    (driveRdata v s).params = s.params := (rfl)
@[simp] theorem driveRdata_count (v : Word) (s : State) :
    (driveRdata v s).count = s.count := (rfl)
@[simp] theorem driveRdata_sync (v : Word) (s : State) :
    (driveRdata v s).sync = s.sync := (rfl)
@[simp] theorem driveRdata_prev (v : Word) (s : State) :
    (driveRdata v s).prev = s.prev := (rfl)
@[simp] theorem driveRdata_lvlSat (v : Word) (s : State) :
    (driveRdata v s).lvlSat = s.lvlSat := (rfl)
@[simp] theorem driveRdata_level (v : Word) (s : State) :
    (driveRdata v s).level = s.level := (rfl)
@[simp] theorem driveRdata_tips (v : Word) (s : State) :
    (driveRdata v s).tips = s.tips := (rfl)
@[simp] theorem driveRdata_nwritten (v : Word) (s : State) :
    (driveRdata v s).nwritten = s.nwritten := (rfl)
@[simp] theorem driveRdata_capErr (v : Word) (s : State) :
    (driveRdata v s).capErr = s.capErr := (rfl)
@[simp] theorem driveRdata_frameValid (v : Word) (s : State) :
    (driveRdata v s).frameValid = s.frameValid := (rfl)
@[simp] theorem driveRdata_frameA (v : Word) (s : State) :
    (driveRdata v s).frameA = s.frameA := (rfl)
@[simp] theorem driveRdata_frameB (v : Word) (s : State) :
    (driveRdata v s).frameB = s.frameB := (rfl)
@[simp] theorem driveRdata_rdata (v : Word) (s : State) :
    (driveRdata v s).rdata = v := (rfl)
@[simp] theorem driveRdata_evtIn (v : Word) (s : State) :
    (driveRdata v s).evtIn = s.evtIn := (rfl)
@[simp] theorem driveRdata_cycle (v : Word) (s : State) :
    (driveRdata v s).cycle = s.cycle := (rfl)
@[simp] theorem driveRdata_script (v : Word) (s : State) :
    (driveRdata v s).script = s.script := (rfl)
@[simp] theorem driveRdata_hostVars (v : Word) (s : State) :
    (driveRdata v s).hostVars = s.hostVars := (rfl)

/-! `writeCtrl` -/

@[simp] theorem writeCtrl_params (w : Word) (s : State) :
    (writeCtrl w s).params = s.params := (rfl)
@[simp] theorem writeCtrl_count (w : Word) (s : State) :
    (writeCtrl w s).count = s.count := (rfl)
@[simp] theorem writeCtrl_sync (w : Word) (s : State) :
    (writeCtrl w s).sync = s.sync := (rfl)
@[simp] theorem writeCtrl_prev (w : Word) (s : State) :
    (writeCtrl w s).prev = s.prev := (rfl)
@[simp] theorem writeCtrl_lvlSat (w : Word) (s : State) :
    (writeCtrl w s).lvlSat = lvlSatOf w := (rfl)
@[simp] theorem writeCtrl_level (w : Word) (s : State) :
    (writeCtrl w s).level = s.level := (rfl)
@[simp] theorem writeCtrl_tips (w : Word) (s : State) :
    (writeCtrl w s).tips = s.tips := (rfl)
@[simp] theorem writeCtrl_nwritten (w : Word) (s : State) :
    (writeCtrl w s).nwritten = s.nwritten := (rfl)
@[simp] theorem writeCtrl_capErr (w : Word) (s : State) :
    (writeCtrl w s).capErr = s.capErr := (rfl)
@[simp] theorem writeCtrl_frameValid (w : Word) (s : State) :
    (writeCtrl w s).frameValid = s.frameValid := (rfl)
@[simp] theorem writeCtrl_frameA (w : Word) (s : State) :
    (writeCtrl w s).frameA = s.frameA := (rfl)
@[simp] theorem writeCtrl_frameB (w : Word) (s : State) :
    (writeCtrl w s).frameB = s.frameB := (rfl)
@[simp] theorem writeCtrl_rdata (w : Word) (s : State) :
    (writeCtrl w s).rdata = s.rdata := (rfl)
@[simp] theorem writeCtrl_evtIn (w : Word) (s : State) :
    (writeCtrl w s).evtIn = s.evtIn := (rfl)
@[simp] theorem writeCtrl_cycle (w : Word) (s : State) :
    (writeCtrl w s).cycle = s.cycle := (rfl)
@[simp] theorem writeCtrl_script (w : Word) (s : State) :
    (writeCtrl w s).script = s.script := (rfl)
@[simp] theorem writeCtrl_hostVars (w : Word) (s : State) :
    (writeCtrl w s).hostVars = s.hostVars := (rfl)

/-! `writeLevel` -/

@[simp] theorem writeLevel_params (w : Word) (s : State) :
    (writeLevel w s).params = s.params := (rfl)
@[simp] theorem writeLevel_count (w : Word) (s : State) :
    (writeLevel w s).count = s.count := (rfl)
@[simp] theorem writeLevel_sync (w : Word) (s : State) :
    (writeLevel w s).sync = s.sync := (rfl)
@[simp] theorem writeLevel_prev (w : Word) (s : State) :
    (writeLevel w s).prev = s.prev := (rfl)
@[simp] theorem writeLevel_lvlSat (w : Word) (s : State) :
    (writeLevel w s).lvlSat = s.lvlSat := (rfl)
@[simp] theorem writeLevel_level (w : Word) (s : State) :
    (writeLevel w s).level = w := (rfl)
@[simp] theorem writeLevel_tips (w : Word) (s : State) :
    (writeLevel w s).tips = s.tips := (rfl)
@[simp] theorem writeLevel_nwritten (w : Word) (s : State) :
    (writeLevel w s).nwritten = s.nwritten := (rfl)
@[simp] theorem writeLevel_capErr (w : Word) (s : State) :
    (writeLevel w s).capErr = s.capErr := (rfl)
@[simp] theorem writeLevel_frameValid (w : Word) (s : State) :
    (writeLevel w s).frameValid = s.frameValid := (rfl)
@[simp] theorem writeLevel_frameA (w : Word) (s : State) :
    (writeLevel w s).frameA = s.frameA := (rfl)
@[simp] theorem writeLevel_frameB (w : Word) (s : State) :
    (writeLevel w s).frameB = s.frameB := (rfl)
@[simp] theorem writeLevel_rdata (w : Word) (s : State) :
    (writeLevel w s).rdata = s.rdata := (rfl)
@[simp] theorem writeLevel_evtIn (w : Word) (s : State) :
    (writeLevel w s).evtIn = s.evtIn := (rfl)
@[simp] theorem writeLevel_cycle (w : Word) (s : State) :
    (writeLevel w s).cycle = s.cycle := (rfl)
@[simp] theorem writeLevel_script (w : Word) (s : State) :
    (writeLevel w s).script = s.script := (rfl)
@[simp] theorem writeLevel_hostVars (w : Word) (s : State) :
    (writeLevel w s).hostVars = s.hostVars := (rfl)

/-! `writeTips` -/

@[simp] theorem writeTips_params (w : Word) (s : State) :
    (writeTips w s).params = s.params := (rfl)
@[simp] theorem writeTips_count (w : Word) (s : State) :
    (writeTips w s).count = s.count := (rfl)
@[simp] theorem writeTips_sync (w : Word) (s : State) :
    (writeTips w s).sync = s.sync := (rfl)
@[simp] theorem writeTips_prev (w : Word) (s : State) :
    (writeTips w s).prev = s.prev := (rfl)
@[simp] theorem writeTips_lvlSat (w : Word) (s : State) :
    (writeTips w s).lvlSat = s.lvlSat := (rfl)
@[simp] theorem writeTips_level (w : Word) (s : State) :
    (writeTips w s).level = s.level := (rfl)
@[simp] theorem writeTips_tips (w : Word) (s : State) :
    (writeTips w s).tips = w := (rfl)
@[simp] theorem writeTips_nwritten (w : Word) (s : State) :
    (writeTips w s).nwritten = s.nwritten := (rfl)
@[simp] theorem writeTips_capErr (w : Word) (s : State) :
    (writeTips w s).capErr = s.capErr := (rfl)
@[simp] theorem writeTips_frameValid (w : Word) (s : State) :
    (writeTips w s).frameValid = s.frameValid := (rfl)
@[simp] theorem writeTips_frameA (w : Word) (s : State) :
    (writeTips w s).frameA = s.frameA := (rfl)
@[simp] theorem writeTips_frameB (w : Word) (s : State) :
    (writeTips w s).frameB = s.frameB := (rfl)
@[simp] theorem writeTips_rdata (w : Word) (s : State) :
    (writeTips w s).rdata = s.rdata := (rfl)
@[simp] theorem writeTips_evtIn (w : Word) (s : State) :
    (writeTips w s).evtIn = s.evtIn := (rfl)
@[simp] theorem writeTips_cycle (w : Word) (s : State) :
    (writeTips w s).cycle = s.cycle := (rfl)
@[simp] theorem writeTips_script (w : Word) (s : State) :
    (writeTips w s).script = s.script := (rfl)
@[simp] theorem writeTips_hostVars (w : Word) (s : State) :
    (writeTips w s).hostVars = s.hostVars := (rfl)

/-! `reportCapacityError` -/

@[simp] theorem reportCapacityError_params (s : State) :
    (reportCapacityError s).params = s.params := (rfl)
@[simp] theorem reportCapacityError_count (s : State) :
    (reportCapacityError s).count = s.count := (rfl)
@[simp] theorem reportCapacityError_sync (s : State) :
    (reportCapacityError s).sync = s.sync := (rfl)
@[simp] theorem reportCapacityError_prev (s : State) :
    (reportCapacityError s).prev = s.prev := (rfl)
@[simp] theorem reportCapacityError_lvlSat (s : State) :
    (reportCapacityError s).lvlSat = s.lvlSat := (rfl)
@[simp] theorem reportCapacityError_level (s : State) :
    (reportCapacityError s).level = s.level := (rfl)
@[simp] theorem reportCapacityError_tips (s : State) :
    (reportCapacityError s).tips = s.tips := (rfl)
@[simp] theorem reportCapacityError_nwritten (s : State) :
    (reportCapacityError s).nwritten = 0 := (rfl)
@[simp] theorem reportCapacityError_capErr (s : State) :
    (reportCapacityError s).capErr = true := (rfl)
@[simp] theorem reportCapacityError_frameValid (s : State) :
    (reportCapacityError s).frameValid = s.frameValid := (rfl)
@[simp] theorem reportCapacityError_frameA (s : State) :
    (reportCapacityError s).frameA = s.frameA := (rfl)
@[simp] theorem reportCapacityError_frameB (s : State) :
    (reportCapacityError s).frameB = s.frameB := (rfl)
@[simp] theorem reportCapacityError_rdata (s : State) :
    (reportCapacityError s).rdata = s.rdata := (rfl)
@[simp] theorem reportCapacityError_evtIn (s : State) :
    (reportCapacityError s).evtIn = s.evtIn := (rfl)
@[simp] theorem reportCapacityError_cycle (s : State) :
    (reportCapacityError s).cycle = s.cycle := (rfl)
@[simp] theorem reportCapacityError_script (s : State) :
    (reportCapacityError s).script = s.script := (rfl)
@[simp] theorem reportCapacityError_hostVars (s : State) :
    (reportCapacityError s).hostVars = s.hostVars := (rfl)

/-! `reportEncoded` -/

@[simp] theorem reportEncoded_params (f : Frame) (s : State) :
    (reportEncoded f s).params = s.params := (rfl)
@[simp] theorem reportEncoded_count (f : Frame) (s : State) :
    (reportEncoded f s).count = s.count := (rfl)
@[simp] theorem reportEncoded_sync (f : Frame) (s : State) :
    (reportEncoded f s).sync = s.sync := (rfl)
@[simp] theorem reportEncoded_prev (f : Frame) (s : State) :
    (reportEncoded f s).prev = s.prev := (rfl)
@[simp] theorem reportEncoded_lvlSat (f : Frame) (s : State) :
    (reportEncoded f s).lvlSat = s.lvlSat := (rfl)
@[simp] theorem reportEncoded_level (f : Frame) (s : State) :
    (reportEncoded f s).level = s.level := (rfl)
@[simp] theorem reportEncoded_tips (f : Frame) (s : State) :
    (reportEncoded f s).tips = s.tips := (rfl)
@[simp] theorem reportEncoded_nwritten (f : Frame) (s : State) :
    (reportEncoded f s).nwritten = 6 := (rfl)
@[simp] theorem reportEncoded_capErr (f : Frame) (s : State) :
    (reportEncoded f s).capErr = false := (rfl)
@[simp] theorem reportEncoded_frameValid (f : Frame) (s : State) :
    (reportEncoded f s).frameValid = true := (rfl)
@[simp] theorem reportEncoded_frameA (f : Frame) (s : State) :
    (reportEncoded f s).frameA = packA f := (rfl)
@[simp] theorem reportEncoded_frameB (f : Frame) (s : State) :
    (reportEncoded f s).frameB = packB f := (rfl)
@[simp] theorem reportEncoded_rdata (f : Frame) (s : State) :
    (reportEncoded f s).rdata = s.rdata := (rfl)
@[simp] theorem reportEncoded_evtIn (f : Frame) (s : State) :
    (reportEncoded f s).evtIn = s.evtIn := (rfl)
@[simp] theorem reportEncoded_cycle (f : Frame) (s : State) :
    (reportEncoded f s).cycle = s.cycle := (rfl)
@[simp] theorem reportEncoded_script (f : Frame) (s : State) :
    (reportEncoded f s).script = s.script := (rfl)
@[simp] theorem reportEncoded_hostVars (f : Frame) (s : State) :
    (reportEncoded f s).hostVars = s.hostVars := (rfl)

/-! `eventIncrement` -/

@[simp] theorem eventIncrement_params (s : State) :
    (eventIncrement s).params = s.params := (rfl)
@[simp] theorem eventIncrement_count (s : State) :
    (eventIncrement s).count = if eventDue s then satinc s.params.countW s.count else s.count := (rfl)
@[simp] theorem eventIncrement_sync (s : State) :
    (eventIncrement s).sync = s.sync := (rfl)
@[simp] theorem eventIncrement_prev (s : State) :
    (eventIncrement s).prev = s.prev := (rfl)
@[simp] theorem eventIncrement_lvlSat (s : State) :
    (eventIncrement s).lvlSat = s.lvlSat := (rfl)
@[simp] theorem eventIncrement_level (s : State) :
    (eventIncrement s).level = s.level := (rfl)
@[simp] theorem eventIncrement_tips (s : State) :
    (eventIncrement s).tips = s.tips := (rfl)
@[simp] theorem eventIncrement_nwritten (s : State) :
    (eventIncrement s).nwritten = s.nwritten := (rfl)
@[simp] theorem eventIncrement_capErr (s : State) :
    (eventIncrement s).capErr = s.capErr := (rfl)
@[simp] theorem eventIncrement_frameValid (s : State) :
    (eventIncrement s).frameValid = s.frameValid := (rfl)
@[simp] theorem eventIncrement_frameA (s : State) :
    (eventIncrement s).frameA = s.frameA := (rfl)
@[simp] theorem eventIncrement_frameB (s : State) :
    (eventIncrement s).frameB = s.frameB := (rfl)
@[simp] theorem eventIncrement_rdata (s : State) :
    (eventIncrement s).rdata = s.rdata := (rfl)
@[simp] theorem eventIncrement_evtIn (s : State) :
    (eventIncrement s).evtIn = s.evtIn := (rfl)
@[simp] theorem eventIncrement_cycle (s : State) :
    (eventIncrement s).cycle = s.cycle := (rfl)
@[simp] theorem eventIncrement_script (s : State) :
    (eventIncrement s).script = s.script := (rfl)
@[simp] theorem eventIncrement_hostVars (s : State) :
    (eventIncrement s).hostVars = s.hostVars := (rfl)

/-! `clearCount` -/

@[simp] theorem clearCount_params (s : State) :
    (clearCount s).params = s.params := (rfl)
@[simp] theorem clearCount_count (s : State) :
    (clearCount s).count = if eventDue s then 1 else 0 := (rfl)
@[simp] theorem clearCount_sync (s : State) :
    (clearCount s).sync = s.sync := (rfl)
@[simp] theorem clearCount_prev (s : State) :
    (clearCount s).prev = s.prev := (rfl)
@[simp] theorem clearCount_lvlSat (s : State) :
    (clearCount s).lvlSat = s.lvlSat := (rfl)
@[simp] theorem clearCount_level (s : State) :
    (clearCount s).level = s.level := (rfl)
@[simp] theorem clearCount_tips (s : State) :
    (clearCount s).tips = s.tips := (rfl)
@[simp] theorem clearCount_nwritten (s : State) :
    (clearCount s).nwritten = s.nwritten := (rfl)
@[simp] theorem clearCount_capErr (s : State) :
    (clearCount s).capErr = s.capErr := (rfl)
@[simp] theorem clearCount_frameValid (s : State) :
    (clearCount s).frameValid = s.frameValid := (rfl)
@[simp] theorem clearCount_frameA (s : State) :
    (clearCount s).frameA = s.frameA := (rfl)
@[simp] theorem clearCount_frameB (s : State) :
    (clearCount s).frameB = s.frameB := (rfl)
@[simp] theorem clearCount_rdata (s : State) :
    (clearCount s).rdata = s.rdata := (rfl)
@[simp] theorem clearCount_evtIn (s : State) :
    (clearCount s).evtIn = s.evtIn := (rfl)
@[simp] theorem clearCount_cycle (s : State) :
    (clearCount s).cycle = s.cycle := (rfl)
@[simp] theorem clearCount_script (s : State) :
    (clearCount s).script = s.script := (rfl)
@[simp] theorem clearCount_hostVars (s : State) :
    (clearCount s).hostVars = s.hostVars := (rfl)

/-! `sampleInput` -/

@[simp] theorem sampleInput_params (s : State) :
    (sampleInput s).params = s.params := (rfl)
@[simp] theorem sampleInput_count (s : State) :
    (sampleInput s).count = s.count := (rfl)
@[simp] theorem sampleInput_sync (s : State) :
    (sampleInput s).sync = shiftIn s.params.syncStages (sampleOf s.evtIn s.cycle) s.sync := (rfl)
@[simp] theorem sampleInput_prev (s : State) :
    (sampleInput s).prev = lastStage s := (rfl)
@[simp] theorem sampleInput_lvlSat (s : State) :
    (sampleInput s).lvlSat = s.lvlSat := (rfl)
@[simp] theorem sampleInput_level (s : State) :
    (sampleInput s).level = s.level := (rfl)
@[simp] theorem sampleInput_tips (s : State) :
    (sampleInput s).tips = s.tips := (rfl)
@[simp] theorem sampleInput_nwritten (s : State) :
    (sampleInput s).nwritten = s.nwritten := (rfl)
@[simp] theorem sampleInput_capErr (s : State) :
    (sampleInput s).capErr = s.capErr := (rfl)
@[simp] theorem sampleInput_frameValid (s : State) :
    (sampleInput s).frameValid = s.frameValid := (rfl)
@[simp] theorem sampleInput_frameA (s : State) :
    (sampleInput s).frameA = s.frameA := (rfl)
@[simp] theorem sampleInput_frameB (s : State) :
    (sampleInput s).frameB = s.frameB := (rfl)
@[simp] theorem sampleInput_rdata (s : State) :
    (sampleInput s).rdata = s.rdata := (rfl)
@[simp] theorem sampleInput_evtIn (s : State) :
    (sampleInput s).evtIn = s.evtIn := (rfl)
@[simp] theorem sampleInput_cycle (s : State) :
    (sampleInput s).cycle = s.cycle := (rfl)
@[simp] theorem sampleInput_script (s : State) :
    (sampleInput s).script = s.script := (rfl)
@[simp] theorem sampleInput_hostVars (s : State) :
    (sampleInput s).hostVars = s.hostVars := (rfl)

/-! `finishCycle` -/

@[simp] theorem finishCycle_params (s : State) :
    (finishCycle s).params = s.params := (rfl)
@[simp] theorem finishCycle_count (s : State) :
    (finishCycle s).count = if eventDue s then satinc s.params.countW s.count else s.count := (rfl)
@[simp] theorem finishCycle_sync (s : State) :
    (finishCycle s).sync = shiftIn s.params.syncStages (sampleOf s.evtIn s.cycle) s.sync := (rfl)
@[simp] theorem finishCycle_prev (s : State) :
    (finishCycle s).prev = lastStage s := (rfl)
@[simp] theorem finishCycle_lvlSat (s : State) :
    (finishCycle s).lvlSat = s.lvlSat := (rfl)
@[simp] theorem finishCycle_level (s : State) :
    (finishCycle s).level = s.level := (rfl)
@[simp] theorem finishCycle_tips (s : State) :
    (finishCycle s).tips = s.tips := (rfl)
@[simp] theorem finishCycle_nwritten (s : State) :
    (finishCycle s).nwritten = s.nwritten := (rfl)
@[simp] theorem finishCycle_capErr (s : State) :
    (finishCycle s).capErr = s.capErr := (rfl)
@[simp] theorem finishCycle_frameValid (s : State) :
    (finishCycle s).frameValid = s.frameValid := (rfl)
@[simp] theorem finishCycle_frameA (s : State) :
    (finishCycle s).frameA = s.frameA := (rfl)
@[simp] theorem finishCycle_frameB (s : State) :
    (finishCycle s).frameB = s.frameB := (rfl)
@[simp] theorem finishCycle_rdata (s : State) :
    (finishCycle s).rdata = s.rdata := (rfl)
@[simp] theorem finishCycle_evtIn (s : State) :
    (finishCycle s).evtIn = s.evtIn := (rfl)
@[simp] theorem finishCycle_cycle (s : State) :
    (finishCycle s).cycle = s.cycle := (rfl)
@[simp] theorem finishCycle_script (s : State) :
    (finishCycle s).script = s.script := (rfl)
@[simp] theorem finishCycle_hostVars (s : State) :
    (finishCycle s).hostVars = s.hostVars := (rfl)

/-! `finishDrain` -/

@[simp] theorem finishDrain_params (s : State) :
    (finishDrain s).params = s.params := (rfl)
@[simp] theorem finishDrain_count (s : State) :
    (finishDrain s).count = if eventDue s then 1 else 0 := (rfl)
@[simp] theorem finishDrain_sync (s : State) :
    (finishDrain s).sync = shiftIn s.params.syncStages (sampleOf s.evtIn s.cycle) s.sync := (rfl)
@[simp] theorem finishDrain_prev (s : State) :
    (finishDrain s).prev = lastStage s := (rfl)
@[simp] theorem finishDrain_lvlSat (s : State) :
    (finishDrain s).lvlSat = s.lvlSat := (rfl)
@[simp] theorem finishDrain_level (s : State) :
    (finishDrain s).level = s.level := (rfl)
@[simp] theorem finishDrain_tips (s : State) :
    (finishDrain s).tips = s.tips := (rfl)
@[simp] theorem finishDrain_nwritten (s : State) :
    (finishDrain s).nwritten = s.nwritten := (rfl)
@[simp] theorem finishDrain_capErr (s : State) :
    (finishDrain s).capErr = s.capErr := (rfl)
@[simp] theorem finishDrain_frameValid (s : State) :
    (finishDrain s).frameValid = s.frameValid := (rfl)
@[simp] theorem finishDrain_frameA (s : State) :
    (finishDrain s).frameA = s.frameA := (rfl)
@[simp] theorem finishDrain_frameB (s : State) :
    (finishDrain s).frameB = s.frameB := (rfl)
@[simp] theorem finishDrain_rdata (s : State) :
    (finishDrain s).rdata = s.rdata := (rfl)
@[simp] theorem finishDrain_evtIn (s : State) :
    (finishDrain s).evtIn = s.evtIn := (rfl)
@[simp] theorem finishDrain_cycle (s : State) :
    (finishDrain s).cycle = s.cycle := (rfl)
@[simp] theorem finishDrain_script (s : State) :
    (finishDrain s).script = s.script := (rfl)
@[simp] theorem finishDrain_hostVars (s : State) :
    (finishDrain s).hostVars = s.hostVars := (rfl)

/-! `resetElements` -/

@[simp] theorem resetElements_params (s : State) :
    (resetElements s).params = s.params := (rfl)
@[simp] theorem resetElements_count (s : State) :
    (resetElements s).count = 0 := (rfl)
@[simp] theorem resetElements_sync (s : State) :
    (resetElements s).sync = List.replicate s.params.syncStages false := (rfl)
@[simp] theorem resetElements_prev (s : State) :
    (resetElements s).prev = false := (rfl)
@[simp] theorem resetElements_lvlSat (s : State) :
    (resetElements s).lvlSat = false := (rfl)
@[simp] theorem resetElements_level (s : State) :
    (resetElements s).level = 0 := (rfl)
@[simp] theorem resetElements_tips (s : State) :
    (resetElements s).tips = 0 := (rfl)
@[simp] theorem resetElements_nwritten (s : State) :
    (resetElements s).nwritten = 0 := (rfl)
@[simp] theorem resetElements_capErr (s : State) :
    (resetElements s).capErr = false := (rfl)
@[simp] theorem resetElements_frameValid (s : State) :
    (resetElements s).frameValid = false := (rfl)
@[simp] theorem resetElements_frameA (s : State) :
    (resetElements s).frameA = 0 := (rfl)
@[simp] theorem resetElements_frameB (s : State) :
    (resetElements s).frameB = 0 := (rfl)
@[simp] theorem resetElements_rdata (s : State) :
    (resetElements s).rdata = 0 := (rfl)
@[simp] theorem resetElements_evtIn (s : State) :
    (resetElements s).evtIn = s.evtIn := (rfl)
@[simp] theorem resetElements_cycle (s : State) :
    (resetElements s).cycle = s.cycle := (rfl)
@[simp] theorem resetElements_script (s : State) :
    (resetElements s).script = s.script := (rfl)
@[simp] theorem resetElements_hostVars (s : State) :
    (resetElements s).hostVars = s.hostVars := (rfl)

/-! `beginCycle` -/

@[simp] theorem beginCycle_params (p : CycleInput) (s : State) :
    (beginCycle p s).params = s.params := (rfl)
@[simp] theorem beginCycle_count (p : CycleInput) (s : State) :
    (beginCycle p s).count = s.count := (rfl)
@[simp] theorem beginCycle_sync (p : CycleInput) (s : State) :
    (beginCycle p s).sync = s.sync := (rfl)
@[simp] theorem beginCycle_prev (p : CycleInput) (s : State) :
    (beginCycle p s).prev = s.prev := (rfl)
@[simp] theorem beginCycle_lvlSat (p : CycleInput) (s : State) :
    (beginCycle p s).lvlSat = s.lvlSat := (rfl)
@[simp] theorem beginCycle_level (p : CycleInput) (s : State) :
    (beginCycle p s).level = s.level := (rfl)
@[simp] theorem beginCycle_tips (p : CycleInput) (s : State) :
    (beginCycle p s).tips = s.tips := (rfl)
@[simp] theorem beginCycle_nwritten (p : CycleInput) (s : State) :
    (beginCycle p s).nwritten = s.nwritten := (rfl)
@[simp] theorem beginCycle_capErr (p : CycleInput) (s : State) :
    (beginCycle p s).capErr = s.capErr := (rfl)
@[simp] theorem beginCycle_frameValid (p : CycleInput) (s : State) :
    (beginCycle p s).frameValid = s.frameValid := (rfl)
@[simp] theorem beginCycle_frameA (p : CycleInput) (s : State) :
    (beginCycle p s).frameA = s.frameA := (rfl)
@[simp] theorem beginCycle_frameB (p : CycleInput) (s : State) :
    (beginCycle p s).frameB = s.frameB := (rfl)
@[simp] theorem beginCycle_rdata (p : CycleInput) (s : State) :
    (beginCycle p s).rdata = s.rdata := (rfl)
@[simp] theorem beginCycle_evtIn (p : CycleInput) (s : State) :
    (beginCycle p s).evtIn = p.evt := (rfl)
@[simp] theorem beginCycle_cycle (p : CycleInput) (s : State) :
    (beginCycle p s).cycle = s.cycle + 1 := (rfl)
@[simp] theorem beginCycle_script (p : CycleInput) (s : State) :
    (beginCycle p s).script = s.script := (rfl)
@[simp] theorem beginCycle_hostVars (p : CycleInput) (s : State) :
    (beginCycle p s).hostVars = s.hostVars := (rfl)

/-! `withFetchWord` -/

@[simp] theorem State.withFetchWord_params (s : State) (n w : Nat) :
    (s.withFetchWord n w).params = s.params := (rfl)
@[simp] theorem State.withFetchWord_count (s : State) (n w : Nat) :
    (s.withFetchWord n w).count = s.count := (rfl)
@[simp] theorem State.withFetchWord_sync (s : State) (n w : Nat) :
    (s.withFetchWord n w).sync = s.sync := (rfl)
@[simp] theorem State.withFetchWord_prev (s : State) (n w : Nat) :
    (s.withFetchWord n w).prev = s.prev := (rfl)
@[simp] theorem State.withFetchWord_lvlSat (s : State) (n w : Nat) :
    (s.withFetchWord n w).lvlSat = s.lvlSat := (rfl)
@[simp] theorem State.withFetchWord_level (s : State) (n w : Nat) :
    (s.withFetchWord n w).level = s.level := (rfl)
@[simp] theorem State.withFetchWord_tips (s : State) (n w : Nat) :
    (s.withFetchWord n w).tips = s.tips := (rfl)
@[simp] theorem State.withFetchWord_nwritten (s : State) (n w : Nat) :
    (s.withFetchWord n w).nwritten = s.nwritten := (rfl)
@[simp] theorem State.withFetchWord_capErr (s : State) (n w : Nat) :
    (s.withFetchWord n w).capErr = s.capErr := (rfl)
@[simp] theorem State.withFetchWord_frameValid (s : State) (n w : Nat) :
    (s.withFetchWord n w).frameValid = s.frameValid := (rfl)
@[simp] theorem State.withFetchWord_frameA (s : State) (n w : Nat) :
    (s.withFetchWord n w).frameA = s.frameA := (rfl)
@[simp] theorem State.withFetchWord_frameB (s : State) (n w : Nat) :
    (s.withFetchWord n w).frameB = s.frameB := (rfl)
@[simp] theorem State.withFetchWord_rdata (s : State) (n w : Nat) :
    (s.withFetchWord n w).rdata = s.rdata := (rfl)
@[simp] theorem State.withFetchWord_evtIn (s : State) (n w : Nat) :
    (s.withFetchWord n w).evtIn = s.evtIn := (rfl)
@[simp] theorem State.withFetchWord_cycle (s : State) (n w : Nat) :
    (s.withFetchWord n w).cycle = s.cycle := (rfl)
@[simp] theorem State.withFetchWord_script (s : State) (n w : Nat) :
    (s.withFetchWord n w).script = wordCycle n w :: s.script := (rfl)
@[simp] theorem State.withFetchWord_hostVars (s : State) (n w : Nat) :
    (s.withFetchWord n w).hostVars = s.hostVars := (rfl)

/-! `loadScript` -/

@[simp] theorem State.loadScript_params (s : State) (ls : List Line) :
    (s.loadScript ls).params = s.params := (rfl)
@[simp] theorem State.loadScript_count (s : State) (ls : List Line) :
    (s.loadScript ls).count = s.count := (rfl)
@[simp] theorem State.loadScript_sync (s : State) (ls : List Line) :
    (s.loadScript ls).sync = s.sync := (rfl)
@[simp] theorem State.loadScript_prev (s : State) (ls : List Line) :
    (s.loadScript ls).prev = s.prev := (rfl)
@[simp] theorem State.loadScript_lvlSat (s : State) (ls : List Line) :
    (s.loadScript ls).lvlSat = s.lvlSat := (rfl)
@[simp] theorem State.loadScript_level (s : State) (ls : List Line) :
    (s.loadScript ls).level = s.level := (rfl)
@[simp] theorem State.loadScript_tips (s : State) (ls : List Line) :
    (s.loadScript ls).tips = s.tips := (rfl)
@[simp] theorem State.loadScript_nwritten (s : State) (ls : List Line) :
    (s.loadScript ls).nwritten = s.nwritten := (rfl)
@[simp] theorem State.loadScript_capErr (s : State) (ls : List Line) :
    (s.loadScript ls).capErr = s.capErr := (rfl)
@[simp] theorem State.loadScript_frameValid (s : State) (ls : List Line) :
    (s.loadScript ls).frameValid = s.frameValid := (rfl)
@[simp] theorem State.loadScript_frameA (s : State) (ls : List Line) :
    (s.loadScript ls).frameA = s.frameA := (rfl)
@[simp] theorem State.loadScript_frameB (s : State) (ls : List Line) :
    (s.loadScript ls).frameB = s.frameB := (rfl)
@[simp] theorem State.loadScript_rdata (s : State) (ls : List Line) :
    (s.loadScript ls).rdata = s.rdata := (rfl)
@[simp] theorem State.loadScript_evtIn (s : State) (ls : List Line) :
    (s.loadScript ls).evtIn = s.evtIn := (rfl)
@[simp] theorem State.loadScript_cycle (s : State) (ls : List Line) :
    (s.loadScript ls).cycle = s.cycle := (rfl)
@[simp] theorem State.loadScript_script (s : State) (ls : List Line) :
    (s.loadScript ls).script = s.script ++ scriptCycles ls := (rfl)
@[simp] theorem State.loadScript_hostVars (s : State) (ls : List Line) :
    (s.loadScript ls).hostVars = s.hostVars := (rfl)

/-! `storeVar` writes the host variables and nothing else -/

@[simp] theorem storeVar_params (d : Option HostVar) (s : State) :
    (storeVar d s).params = s.params := by cases d <;> rfl
@[simp] theorem storeVar_count (d : Option HostVar) (s : State) :
    (storeVar d s).count = s.count := by cases d <;> rfl
@[simp] theorem storeVar_sync (d : Option HostVar) (s : State) :
    (storeVar d s).sync = s.sync := by cases d <;> rfl
@[simp] theorem storeVar_prev (d : Option HostVar) (s : State) :
    (storeVar d s).prev = s.prev := by cases d <;> rfl
@[simp] theorem storeVar_lvlSat (d : Option HostVar) (s : State) :
    (storeVar d s).lvlSat = s.lvlSat := by cases d <;> rfl
@[simp] theorem storeVar_level (d : Option HostVar) (s : State) :
    (storeVar d s).level = s.level := by cases d <;> rfl
@[simp] theorem storeVar_tips (d : Option HostVar) (s : State) :
    (storeVar d s).tips = s.tips := by cases d <;> rfl
@[simp] theorem storeVar_nwritten (d : Option HostVar) (s : State) :
    (storeVar d s).nwritten = s.nwritten := by cases d <;> rfl
@[simp] theorem storeVar_capErr (d : Option HostVar) (s : State) :
    (storeVar d s).capErr = s.capErr := by cases d <;> rfl
@[simp] theorem storeVar_frameValid (d : Option HostVar) (s : State) :
    (storeVar d s).frameValid = s.frameValid := by cases d <;> rfl
@[simp] theorem storeVar_frameA (d : Option HostVar) (s : State) :
    (storeVar d s).frameA = s.frameA := by cases d <;> rfl
@[simp] theorem storeVar_frameB (d : Option HostVar) (s : State) :
    (storeVar d s).frameB = s.frameB := by cases d <;> rfl
@[simp] theorem storeVar_rdata (d : Option HostVar) (s : State) :
    (storeVar d s).rdata = s.rdata := by cases d <;> rfl
@[simp] theorem storeVar_evtIn (d : Option HostVar) (s : State) :
    (storeVar d s).evtIn = s.evtIn := by cases d <;> rfl
@[simp] theorem storeVar_cycle (d : Option HostVar) (s : State) :
    (storeVar d s).cycle = s.cycle := by cases d <;> rfl
@[simp] theorem storeVar_script (d : Option HostVar) (s : State) :
    (storeVar d s).script = s.script := by cases d <;> rfl

/-! The event condition depends on SYNC, PREV and SYNC_STAGES alone -/

@[simp] theorem lastStage_driveRdata (v : Word) (s : State) :
    lastStage (driveRdata v s) = lastStage s := (rfl)
@[simp] theorem eventDue_driveRdata (v : Word) (s : State) :
    eventDue (driveRdata v s) = eventDue s := (rfl)
@[simp] theorem incBit_driveRdata (v : Word) (s : State) :
    incBit (driveRdata v s) = incBit s := (rfl)
@[simp] theorem lastStage_writeCtrl (w : Word) (s : State) :
    lastStage (writeCtrl w s) = lastStage s := (rfl)
@[simp] theorem eventDue_writeCtrl (w : Word) (s : State) :
    eventDue (writeCtrl w s) = eventDue s := (rfl)
@[simp] theorem incBit_writeCtrl (w : Word) (s : State) :
    incBit (writeCtrl w s) = incBit s := (rfl)
@[simp] theorem lastStage_writeLevel (w : Word) (s : State) :
    lastStage (writeLevel w s) = lastStage s := (rfl)
@[simp] theorem eventDue_writeLevel (w : Word) (s : State) :
    eventDue (writeLevel w s) = eventDue s := (rfl)
@[simp] theorem incBit_writeLevel (w : Word) (s : State) :
    incBit (writeLevel w s) = incBit s := (rfl)
@[simp] theorem lastStage_writeTips (w : Word) (s : State) :
    lastStage (writeTips w s) = lastStage s := (rfl)
@[simp] theorem eventDue_writeTips (w : Word) (s : State) :
    eventDue (writeTips w s) = eventDue s := (rfl)
@[simp] theorem incBit_writeTips (w : Word) (s : State) :
    incBit (writeTips w s) = incBit s := (rfl)
@[simp] theorem lastStage_reportCapacityError (s : State) :
    lastStage (reportCapacityError s) = lastStage s := (rfl)
@[simp] theorem eventDue_reportCapacityError (s : State) :
    eventDue (reportCapacityError s) = eventDue s := (rfl)
@[simp] theorem incBit_reportCapacityError (s : State) :
    incBit (reportCapacityError s) = incBit s := (rfl)
@[simp] theorem lastStage_reportEncoded (f : Frame) (s : State) :
    lastStage (reportEncoded f s) = lastStage s := (rfl)
@[simp] theorem eventDue_reportEncoded (f : Frame) (s : State) :
    eventDue (reportEncoded f s) = eventDue s := (rfl)
@[simp] theorem incBit_reportEncoded (f : Frame) (s : State) :
    incBit (reportEncoded f s) = incBit s := (rfl)
@[simp] theorem lastStage_eventIncrement (s : State) :
    lastStage (eventIncrement s) = lastStage s := (rfl)
@[simp] theorem eventDue_eventIncrement (s : State) :
    eventDue (eventIncrement s) = eventDue s := (rfl)
@[simp] theorem incBit_eventIncrement (s : State) :
    incBit (eventIncrement s) = incBit s := (rfl)
@[simp] theorem lastStage_clearCount (s : State) :
    lastStage (clearCount s) = lastStage s := (rfl)
@[simp] theorem eventDue_clearCount (s : State) :
    eventDue (clearCount s) = eventDue s := (rfl)
@[simp] theorem incBit_clearCount (s : State) :
    incBit (clearCount s) = incBit s := (rfl)
@[simp] theorem lastStage_beginCycle (p : CycleInput) (s : State) :
    lastStage (beginCycle p s) = lastStage s := (rfl)
@[simp] theorem eventDue_beginCycle (p : CycleInput) (s : State) :
    eventDue (beginCycle p s) = eventDue s := (rfl)
@[simp] theorem incBit_beginCycle (p : CycleInput) (s : State) :
    incBit (beginCycle p s) = incBit s := (rfl)
@[simp] theorem State.lastStage_withFetchWord (s : State) (n w : Nat) :
    lastStage (s.withFetchWord n w) = lastStage s := (rfl)
@[simp] theorem State.eventDue_withFetchWord (s : State) (n w : Nat) :
    eventDue (s.withFetchWord n w) = eventDue s := (rfl)
@[simp] theorem State.incBit_withFetchWord (s : State) (n w : Nat) :
    incBit (s.withFetchWord n w) = incBit s := (rfl)
@[simp] theorem State.lastStage_loadScript (s : State) (ls : List Line) :
    lastStage (s.loadScript ls) = lastStage s := (rfl)
@[simp] theorem State.eventDue_loadScript (s : State) (ls : List Line) :
    eventDue (s.loadScript ls) = eventDue s := (rfl)
@[simp] theorem State.incBit_loadScript (s : State) (ls : List Line) :
    incBit (s.loadScript ls) = incBit s := (rfl)

/-- The condition of the meanings is the condition of the claims. -/
theorem eventDue_eq_incBit (s : State) : eventDue s = incBit s := rfl

@[simp] theorem writeIgnored_eq (w : Word) (s : State) : writeIgnored w s = s := rfl

@[simp] theorem reset_params : State.reset.params = Config.defaultParams := rfl

end Sys2Proof.Machine
end

