-- ==== Sys2Proof/Laws/Cycle.lean ====
section
/-! SUPPORT. What one operation can do, said once: its bus path, which leaves the
accumulator alone, and then the event path of the same edge (R61). -/

namespace Sys2Proof.Machine

/-- The bus path of an operation: `rdata`, and the effect of a write. -/
def busPath (i : Instr) (s : State) : State :=
  match i with
  | .reset => resetElements s
  | .idle => driveRdata 0 s
  | .rdCtrl => driveRdata (ctrlWord s) s
  | .wrCtrl w => writeCtrl w (driveRdata 0 s)
  | .rdDrain => driveRdata (drainWord s) s
  | .wrDrain _ => driveRdata 0 s
  | .rdLevel => driveRdata s.level s
  | .wrLevel w => writeLevel w (driveRdata 0 s)
  | .rdTips => driveRdata s.tips s
  | .wrTips w => writeTips w (driveRdata 0 s)
  | .rdEncode => driveRdata 0 s
  | .wrEncode w => writeEncode w (driveRdata 0 s)
  | .rdStatus => driveRdata (statusWord s) s
  | .wrStatus _ => driveRdata 0 s
  | .rdFrameA => driveRdata s.frameA s
  | .wrFrameA _ => driveRdata 0 s
  | .rdFrameB => driveRdata (frameBWord s) s
  | .wrFrameB _ => driveRdata 0 s
  | .evt => s

/-- The four shapes of an operation: reset, the event increment, a drain, and a
cycle with any other bus path. -/
theorem exec_cases {i : Instr} {s t : State} (h : exec i s = .next t) :
    (i = .reset ∧ t = resetElements s) ∨
    (i = .evt ∧ t = eventIncrement s) ∨
    (i = .rdDrain ∧ t = finishDrain (driveRdata s.count s)) ∨
    (i ≠ .reset ∧ i ≠ .evt ∧ i ≠ .rdDrain ∧ t = finishCycle (busPath i s)) := by
  cases i <;> cases h <;> simp <;> rfl

/-- A write to ENCODE leaves everything but the result registers alone. -/
theorem writeEncode_frame (w : Word) (s : State) :
    (writeEncode w s).params = s.params ∧ (writeEncode w s).count = s.count ∧
    (writeEncode w s).sync = s.sync ∧ (writeEncode w s).prev = s.prev ∧
    (writeEncode w s).lvlSat = s.lvlSat ∧ (writeEncode w s).level = s.level ∧
    (writeEncode w s).tips = s.tips ∧ (writeEncode w s).rdata = s.rdata ∧
    (writeEncode w s).evtIn = s.evtIn ∧ (writeEncode w s).cycle = s.cycle ∧
    (writeEncode w s).script = s.script ∧ (writeEncode w s).hostVars = s.hostVars := by
  unfold writeEncode; split <;> simp

/-- The bus path leaves the accumulator and everything outside the block alone. -/
theorem busPath_frame {i : Instr} (s : State) (h : i ≠ .reset) :
    SameAccumulator s (busPath i s) ∧ SameOutside s (busPath i s) := by
  cases i <;> simp_all [busPath, SameAccumulator, SameOutside, writeEncode_frame]

theorem lastStage_congr {s t : State} (hp : t.params = s.params) (hs : t.sync = s.sync) :
    lastStage t = lastStage s := by
  unfold lastStage; rw [hp, hs]

theorem eventDue_congr {s t : State} (hp : t.params = s.params) (h : SameAccumulator s t) :
    eventDue t = eventDue s := by
  unfold eventDue; rw [lastStage_congr hp h.2.1, h.2.2]

/-- COUNT, SYNC and PREV after a cycle are those of R61 over the state before
the edge, whatever the bus path did. -/
theorem finishCycle_busPath {i : Instr} (s : State) (h : i ≠ .reset) :
    (finishCycle (busPath i s)).count = (eventIncrement s).count ∧
    (finishCycle (busPath i s)).sync = (sampleInput s).sync ∧
    (finishCycle (busPath i s)).prev = (sampleInput s).prev := by
  obtain ⟨ha, hp, he, hc, -⟩ := busPath_frame s h
  simp [eventDue_congr hp ha, lastStage_congr hp ha.2.1, hp, he, hc, ha.1, ha.2.1]

end Sys2Proof.Machine
end

