-- ==== Sys2Proof/Laws/Decode.lean ====
section
/-! SUPPORT. The decoder, control word by control word (R56). -/

namespace Sys2Proof

/-- A control word is its fields `{rst, sel, we, idx}` (R51). -/
theorem controlWord_fields (cw : ControlWord) :
    BitVec.ofBool (cw.getLsbD 5) ++ BitVec.ofBool (cw.getLsbD 4) ++
      BitVec.ofBool (cw.getLsbD 3) ++ cw.extractLsb' 0 3 = cw := by
  revert cw; decide

theorem decode_reset {cw : ControlWord} (w : Word) (h5 : cw.getLsbD 5 = true) :
    decodeControl cw w = .reset := by
  simp only [decodeControl, h5]; rfl

theorem decode_idle {cw : ControlWord} (w : Word) (h5 : cw.getLsbD 5 = false)
    (h4 : cw.getLsbD 4 = false) : decodeControl cw w = .idle := by
  simp only [decodeControl, h5, h4]; rfl

theorem decode_read {cw : ControlWord} (w : Word) (h5 : cw.getLsbD 5 = false)
    (h4 : cw.getLsbD 4 = true) (h3 : cw.getLsbD 3 = false) :
    decodeControl cw w = readOf (regOfIdx (cw.extractLsb' 0 3)) := by
  simp only [decodeControl, h5, h4, h3]; rfl

theorem decode_write {cw : ControlWord} (w : Word) (h5 : cw.getLsbD 5 = false)
    (h4 : cw.getLsbD 4 = true) (h3 : cw.getLsbD 3 = true) :
    decodeControl cw w = writeOf (regOfIdx (cw.extractLsb' 0 3)) w := by
  simp only [decodeControl, h5, h4, h3]; rfl

@[simp] theorem regOfIdx_idx (r : Reg) : regOfIdx r.idx = r := by
  cases r <;> rfl

@[simp] theorem idx_regOfIdx (i : BitVec 3) : (regOfIdx i).idx = i := by
  revert i; decide

theorem readOf_injective {r q : Reg} (h : readOf r = readOf q) : r = q := by
  cases r <;> cases q <;> first | rfl | cases h

theorem readOf_ne_reset (r : Reg) : readOf r ≠ .reset := by
  cases r <;> exact nofun

theorem writeOf_ne_reset (r : Reg) (w : Word) : writeOf r w ≠ .reset := by
  cases r <;> exact nofun

theorem writeOf_ne_rdDrain (r : Reg) (w : Word) : writeOf r w ≠ .rdDrain := by
  cases r <;> exact nofun

/-- No control word selects EVT (R53). -/
theorem decodeControl_ne_evt (cw : ControlWord) (w : Word) : decodeControl cw w ≠ .evt := by
  unfold decodeControl
  split
  · exact nofun
  split
  · exact nofun
  split
  · cases regOfIdx _ <;> exact nofun
  · cases regOfIdx _ <;> exact nofun

/-- A reset cycle is one with `rst = 1` (R51). -/
theorem decodeControl_eq_reset (cw : ControlWord) (w : Word) :
    decodeControl cw w = .reset ↔ cw.getLsbD 5 = true := by
  constructor
  · intro h
    rcases h5 : cw.getLsbD 5 with _ | _
    · rcases h4 : cw.getLsbD 4 with _ | _
      · rw [decode_idle w h5 h4] at h; cases h
      · rcases h3 : cw.getLsbD 3 with _ | _
        · exact absurd (decode_read w h5 h4 h3 ▸ h) (readOf_ne_reset _)
        · exact absurd (decode_write w h5 h4 h3 ▸ h) (writeOf_ne_reset _ _)
    · rfl
  · exact decode_reset w

/-- A drain is the control word `010001` (R53). -/
theorem decodeControl_eq_rdDrain (cw : ControlWord) (w : Word) :
    decodeControl cw w = .rdDrain ↔ cw = 0b010001 := by
  constructor
  · intro h
    rcases h5 : cw.getLsbD 5 with _ | _
    · rcases h4 : cw.getLsbD 4 with _ | _
      · rw [decode_idle w h5 h4] at h; cases h
      · rcases h3 : cw.getLsbD 3 with _ | _
        · rw [decode_read w h5 h4 h3] at h
          have hr := congrArg Reg.idx (readOf_injective (q := .drain) h)
          rw [idx_regOfIdx] at hr
          have hf := controlWord_fields cw
          rw [h5, h4, h3, hr] at hf
          rw [← hf]; rfl
        · exact absurd (decode_write w h5 h4 h3 ▸ h) (writeOf_ne_rdDrain _ _)
    · rw [decode_reset w h5] at h; cases h
  · rintro rfl; rfl

/-! The sixteen BUS rows of the opcode map (R53) -/

theorem decode_rdCtrl (w : Word) : decodeControl 0b010000 w = .rdCtrl := rfl
theorem decode_wrCtrl (w : Word) : decodeControl 0b011000 w = .wrCtrl w := rfl
theorem decode_rdDrain (w : Word) : decodeControl 0b010001 w = .rdDrain := rfl
theorem decode_wrDrain (w : Word) : decodeControl 0b011001 w = .wrDrain w := rfl
theorem decode_rdLevel (w : Word) : decodeControl 0b010010 w = .rdLevel := rfl
theorem decode_wrLevel (w : Word) : decodeControl 0b011010 w = .wrLevel w := rfl
theorem decode_rdTips (w : Word) : decodeControl 0b010011 w = .rdTips := rfl
theorem decode_wrTips (w : Word) : decodeControl 0b011011 w = .wrTips w := rfl
theorem decode_rdEncode (w : Word) : decodeControl 0b010100 w = .rdEncode := rfl
theorem decode_wrEncode (w : Word) : decodeControl 0b011100 w = .wrEncode w := rfl
theorem decode_rdStatus (w : Word) : decodeControl 0b010101 w = .rdStatus := rfl
theorem decode_wrStatus (w : Word) : decodeControl 0b011101 w = .wrStatus w := rfl
theorem decode_rdFrameA (w : Word) : decodeControl 0b010110 w = .rdFrameA := rfl
theorem decode_wrFrameA (w : Word) : decodeControl 0b011110 w = .wrFrameA w := rfl
theorem decode_rdFrameB (w : Word) : decodeControl 0b010111 w = .rdFrameB := rfl
theorem decode_wrFrameB (w : Word) : decodeControl 0b011111 w = .wrFrameB w := rfl

end Sys2Proof
end

