-- ==== Sys2Proof/Laws/Operands.lean ====
section
/-! SUPPORT. The words that reads assemble, field by field (R52). -/

namespace Sys2Proof.Machine

/-- STATUS[7:0] is NWRITTEN (R27). -/
theorem statusWord_nwritten (s : State) : (statusWord s).extractLsb' 0 8 = s.nwritten := by
  ext i hi
  rw [BitVec.getElem_extractLsb']
  unfold statusWord
  rw [BitVec.getLsbD_append]
  simp [hi]

/-- STATUS[8] is CAP_ERR (R27). -/
theorem statusWord_capErr (s : State) : (statusWord s).getLsbD 8 = s.capErr := by
  unfold statusWord
  rw [BitVec.getLsbD_append, BitVec.getLsbD_append]
  simp

/-- STATUS[9] is FRAME_VALID (R27). -/
theorem statusWord_frameValid (s : State) : (statusWord s).getLsbD 9 = s.frameValid := by
  unfold statusWord
  rw [BitVec.getLsbD_append, BitVec.getLsbD_append, BitVec.getLsbD_append]
  simp

/-- STATUS[31:10] reads as zero (R27). -/
theorem statusWord_reserved (s : State) : (statusWord s).extractLsb' 10 22 = 0 := by
  ext i hi
  rw [BitVec.getElem_extractLsb']
  unfold statusWord
  rw [BitVec.getLsbD_append, BitVec.getLsbD_append, BitVec.getLsbD_append]
  have h8 : ¬ 10 + i < 8 := by omega
  have h1 : ¬ 10 + i - 8 < 1 := by omega
  have h2 : ¬ 10 + i - 8 - 1 < 1 := by omega
  simp [h8, h1, h2]

/-- STATUS as a number (R27). -/
theorem statusWord_toNat (s : State) : (statusWord s).toNat =
    512 * s.frameValid.toNat + 256 * s.capErr.toNat + s.nwritten.toNat := by
  have := s.nwritten.isLt
  unfold statusWord
  rw [BitVec.toNat_append, BitVec.toNat_append, BitVec.toNat_append,
    ← Nat.shiftLeft_add_eq_or_of_lt this]
  cases s.frameValid <;> cases s.capErr <;> simp

/-- A read of CTRL as a number (R24). -/
theorem ctrlWord_toNat (s : State) : (ctrlWord s).toNat = s.lvlSat.toNat := by
  unfold ctrlWord
  cases s.lvlSat <;> rfl

/-- A read of FRAME_B as a number (R29). -/
theorem frameBWord_toNat (s : State) : (frameBWord s).toNat = s.frameB.toNat := by
  have := s.frameB.isLt
  simp [frameBWord]
  omega

end Sys2Proof.Machine
end

