-- ==== Sys2Proof/Laws/Ops.lean ====
section
/-! SUPPORT. What each shared operation answers, and which of them keep the parts
of the invariant. -/

namespace Sys2Proof.Machine

/-- With `COUNT_W` at most 32 the increment does not wrap (R71). -/
theorem satinc_toNat {w : Nat} {v : Word} (hw : w ≤ 32) (hv : v.toNat < 2 ^ w) :
    (satinc w v).toNat = min (v.toNat + 1) (2 ^ w - 1) := by
  have hp : 2 ^ w ≤ 2 ^ 32 := Nat.pow_le_pow_right (by omega) hw
  unfold satinc
  split
  · rename_i h
    rw [BitVec.toNat_add]
    simp
    omega
  · omega

theorem satinc_lt {w : Nat} {v : Word} (hw : w ≤ 32) (hv : v.toNat < 2 ^ w) :
    (satinc w v).toNat < 2 ^ w := by
  rw [satinc_toNat hw hv]
  have := Nat.two_pow_pos w
  omega

@[simp] theorem shiftIn_length (n : Nat) (b : Bool) (l : List Bool) :
    (shiftIn n b l).length = min n (l.length + 1) := by
  simp [shiftIn]

/-- Stage 0 takes the sample (R60). -/
theorem shiftIn_zero {n : Nat} (b : Bool) (l : List Bool) (h : 0 < n) :
    (shiftIn n b l).getD 0 false = b := by
  obtain ⟨m, rfl⟩ := Nat.exists_eq_add_of_lt h
  simp [shiftIn]

/-- Every other stage takes the one before it (R60). -/
theorem shiftIn_succ {n i : Nat} (b : Bool) (l : List Bool) (h : i + 1 < n) :
    (shiftIn n b l).getD (i + 1) false = l.getD i false := by
  simp [shiftIn, List.getD_eq_getElem?_getD, h]

theorem eventIncrement_accumulatorInv {s : State} (h : AccumulatorInv s) :
    AccumulatorInv (eventIncrement s) := by
  obtain ⟨hl, hc, hs⟩ := h
  refine ⟨by simpa using hl, ?_, by simpa using hs⟩
  simp only [eventIncrement_count, eventIncrement_params]
  split
  · exact satinc_lt hl.2.1 hc
  · exact hc

theorem finishCycle_accumulatorInv {s : State} (h : AccumulatorInv s) :
    AccumulatorInv (finishCycle s) := by
  obtain ⟨hl, hc, -⟩ := eventIncrement_accumulatorInv h
  refine ⟨by simpa using hl, by simpa using hc, ?_⟩
  simp [h.2.2]

theorem finishDrain_accumulatorInv {s : State} (h : AccumulatorInv s) :
    AccumulatorInv (finishDrain s) := by
  obtain ⟨hl, -, hs⟩ := h
  have : 2 ^ 16 ≤ 2 ^ s.params.countW := Nat.pow_le_pow_right (by omega) hl.1
  refine ⟨by simpa using hl, ?_, by simp [hs]⟩
  simp only [finishDrain_count, finishDrain_params]
  split
  · simp; omega
  · simp

theorem resetElements_inv {s : State} (h : s.params.Legal) : (resetElements s).Inv := by
  refine ⟨⟨by simpa using h, ?_, by simp⟩, by simp [StatusInv], by simp [FrameInv]⟩
  simp

/-- The bytes of FRAME_A are the first four bytes of the frame packed into it (R29). -/
theorem packA_bytes (f : Frame) :
    (packA f).extractLsb' 24 8 = f.b0 ∧ (packA f).extractLsb' 16 8 = f.b1 ∧
    (packA f).extractLsb' 8 8 = f.b2 ∧ (packA f).extractLsb' 0 8 = f.b3 := by
  unfold packA
  refine ⟨?_, ?_, ?_, ?_⟩ <;> ext i hi <;>
    simp <;> grind

/-- The two bytes of a 16-bit field, put together again. -/
theorem highByte_append_lowByte (v : Half) : highByte v ++ lowByte v = v := by
  unfold highByte lowByte
  ext i hi
  simp
  grind

theorem reportEncoded_statusInv (f : Frame) (s : State) : StatusInv (reportEncoded f s) := by
  simp [StatusInv]

theorem reportCapacityError_statusInv (s : State) : StatusInv (reportCapacityError s) := by
  simp [StatusInv]

end Sys2Proof.Machine
end

