-- ==== Sys2Proof/Laws/PerInstr.lean ====
section
/-! SUPPORT. What is said of every operation as syntax, one lemma per constructor. -/

namespace Sys2Proof.Laws

/-- The control word an operation encodes to lies in its own row of the opcode
map (R53): it agrees with the row's match on the row's mask. -/
def InItsRow.Statement (i : Instr) : Prop :=
  ∀ cw, encodeControl i = some cw → cw &&& (opcodeRow i).2 = (opcodeRow i).1

namespace InItsRow

theorem reset : InItsRow.Statement .reset := by intro cw h; cases h; simp only [opcodeRow]; decide
theorem idle : InItsRow.Statement .idle := by intro cw h; cases h; simp only [opcodeRow]; decide
theorem rdCtrl : InItsRow.Statement .rdCtrl := by intro cw h; cases h; simp only [opcodeRow]; decide
theorem wrCtrl (wdata : Word) : InItsRow.Statement (.wrCtrl wdata) := by intro cw h; cases h; simp only [opcodeRow]; decide
theorem rdDrain : InItsRow.Statement .rdDrain := by intro cw h; cases h; simp only [opcodeRow]; decide
theorem wrDrain (wdata : Word) : InItsRow.Statement (.wrDrain wdata) := by intro cw h; cases h; simp only [opcodeRow]; decide
theorem rdLevel : InItsRow.Statement .rdLevel := by intro cw h; cases h; simp only [opcodeRow]; decide
theorem wrLevel (wdata : Word) : InItsRow.Statement (.wrLevel wdata) := by intro cw h; cases h; simp only [opcodeRow]; decide
theorem rdTips : InItsRow.Statement .rdTips := by intro cw h; cases h; simp only [opcodeRow]; decide
theorem wrTips (wdata : Word) : InItsRow.Statement (.wrTips wdata) := by intro cw h; cases h; simp only [opcodeRow]; decide
theorem rdEncode : InItsRow.Statement .rdEncode := by intro cw h; cases h; simp only [opcodeRow]; decide
theorem wrEncode (wdata : Word) : InItsRow.Statement (.wrEncode wdata) := by intro cw h; cases h; simp only [opcodeRow]; decide
theorem rdStatus : InItsRow.Statement .rdStatus := by intro cw h; cases h; simp only [opcodeRow]; decide
theorem wrStatus (wdata : Word) : InItsRow.Statement (.wrStatus wdata) := by intro cw h; cases h; simp only [opcodeRow]; decide
theorem rdFrameA : InItsRow.Statement .rdFrameA := by intro cw h; cases h; simp only [opcodeRow]; decide
theorem wrFrameA (wdata : Word) : InItsRow.Statement (.wrFrameA wdata) := by intro cw h; cases h; simp only [opcodeRow]; decide
theorem rdFrameB : InItsRow.Statement .rdFrameB := by intro cw h; cases h; simp only [opcodeRow]; decide
theorem wrFrameB (wdata : Word) : InItsRow.Statement (.wrFrameB wdata) := by intro cw h; cases h; simp only [opcodeRow]; decide
theorem evt : InItsRow.Statement .evt := by intro cw h; cases h

end InItsRow

end Sys2Proof.Laws
end

