-- ==== Sys2Proof/Laws/Run.lean ====
section
/-! SUPPORT. What one clock cycle does to the accumulator, by the cycle's inputs
(R61, R140), that it keeps the accumulator's invariant, what a run that never
saturates is cycle by cycle, and when a host access reaches the block. -/

namespace Sys2Proof.Machine

/-- A cycle keeps the parameters and moves the cycle index on. -/
theorem runCycle_outside {p : CycleInput} {s t : State} (h : runCycle p s = .next t) :
    t.params = s.params ∧ t.cycle = s.cycle + 1 ∧ t.evtIn = p.evt ∧ t.script = s.script ∧
    t.hostVars = s.hostVars := by
  rcases exec_cases h with ⟨-, rfl⟩ | ⟨-, rfl⟩ | ⟨-, rfl⟩ | ⟨h1, -, -, rfl⟩
  · simp
  · simp
  · simp
  · obtain ⟨-, hp, he, hc, hs, hv⟩ := busPath_frame (beginCycle p s) h1
    simp [hp, he, hc, hs, hv]

/-- A reset cycle zeroes the block (R140). -/
theorem runCycle_reset {p : CycleInput} {s t : State} (h : runCycle p s = .next t)
    (hr : isResetCycle p = true) : t = resetElements (beginCycle p s) := by
  unfold runCycle at h
  rw [decode_reset p.wdata hr] at h
  cases h; rfl

/-- SYNC and PREV after a non-reset cycle (R60). -/
theorem runCycle_sampled {p : CycleInput} {s t : State} (h : runCycle p s = .next t)
    (hr : isResetCycle p = false) :
    t.sync = shiftIn s.params.syncStages (sampleOf p.evt (s.cycle + 1)) s.sync ∧
    t.prev = lastStage s := by
  have hne : decodeControl p.control p.wdata ≠ .reset := fun hc => by
    rw [decodeControl_eq_reset] at hc
    exact absurd (hc.symm.trans hr) (by decide)
  rcases exec_cases h with ⟨hi, -⟩ | ⟨hi, -⟩ | ⟨-, rfl⟩ | ⟨h1, -, -, rfl⟩
  · exact absurd hi hne
  · exact absurd hi (decodeControl_ne_evt _ _)
  · simp
  · obtain ⟨-, hs, hp⟩ := finishCycle_busPath (beginCycle p s) h1
    rw [hs, hp]; simp

/-- A drain returns COUNT and leaves the increment of its own edge (R64). -/
theorem runCycle_drain {p : CycleInput} {s t : State} (h : runCycle p s = .next t)
    (hd : isDrainCycle p = true) :
    t.rdata = s.count ∧ t.count = if eventDue s then 1 else 0 := by
  have hw : p.control = 0b010001 := by simpa [isDrainCycle] using hd
  unfold runCycle at h
  rw [(decodeControl_eq_rdDrain _ _).2 hw] at h
  cases h
  constructor
  · rfl
  · simp

/-- COUNT after a cycle that is neither reset nor a drain (R61, R63). -/
theorem runCycle_counted {p : CycleInput} {s t : State} (h : runCycle p s = .next t)
    (hr : isResetCycle p = false) (hd : isDrainCycle p = false) :
    t.count = (eventIncrement s).count := by
  have hne : decodeControl p.control p.wdata ≠ .reset := fun hc => by
    rw [decodeControl_eq_reset] at hc
    exact absurd (hc.symm.trans hr) (by decide)
  have hnd : decodeControl p.control p.wdata ≠ .rdDrain := fun hc => by
    rw [decodeControl_eq_rdDrain] at hc
    simp [isDrainCycle, hc] at hd
  rcases exec_cases h with ⟨hi, -⟩ | ⟨hi, -⟩ | ⟨hi, -⟩ | ⟨h1, -, -, rfl⟩
  · exact absurd hi hne
  · exact absurd hi (decodeControl_ne_evt _ _)
  · exact absurd hi hnd
  · rw [(finishCycle_busPath (beginCycle p s) h1).1]; simp

/-- A cycle keeps the accumulator's part of the invariant. -/
theorem runCycle_accumulatorInv {p : CycleInput} {s t : State} (h : runCycle p s = .next t)
    (hi : AccumulatorInv s) : AccumulatorInv t := by
  have hb : AccumulatorInv (beginCycle p s) := by simpa [AccumulatorInv] using hi
  rcases exec_cases h with ⟨-, rfl⟩ | ⟨-, rfl⟩ | ⟨-, rfl⟩ | ⟨h1, -, -, rfl⟩
  · exact (resetElements_inv hb.1).1
  · exact eventIncrement_accumulatorInv hb
  · exact finishDrain_accumulatorInv (by simpa [AccumulatorInv] using hb)
  · apply finishCycle_accumulatorInv
    obtain ⟨⟨hc, hs, -⟩, hp, -⟩ := busPath_frame (beginCycle p s) h1
    simpa [AccumulatorInv, hc, hs, hp] using hb

/-! A run that never saturates (R66), cycle by cycle -/

theorem neverSaturates_nil (s : State) : NeverSaturates [] s := by
  intro qs rest p t h
  simp at h

/-- The first cycle of such a run does not saturate. -/
theorem NeverSaturates.head {p : CycleInput} {ps : List CycleInput} {s : State}
    (h : NeverSaturates (p :: ps) s) (hi : incBit s = true) (hd : isDrainCycle p = false) :
    s.count.toNat < 2 ^ s.params.countW - 1 :=
  h [] ps p s rfl rfl hi hd

/-- The rest of such a run does not saturate either. -/
theorem NeverSaturates.tail {p : CycleInput} {ps : List CycleInput} {s t : State}
    (h : NeverSaturates (p :: ps) s) (ht : runCycle p s = .next t) : NeverSaturates ps t :=
  fun qs rest q u hq hu => h (p :: qs) rest q u (by rw [hq]; rfl) (by simpa [runInputs, ht] using hu)

theorem neverSaturates_cons {p : CycleInput} {ps : List CycleInput} {s t : State}
    (ht : runCycle p s = .next t)
    (hs : incBit s = true → isDrainCycle p = false → s.count.toNat < 2 ^ s.params.countW - 1)
    (h : NeverSaturates ps t) : NeverSaturates (p :: ps) s := by
  rintro (_ | ⟨q, qs⟩) rest r u hq hu
  · cases hq; cases hu; exact hs
  · cases hq
    exact h qs rest r u rfl (by simpa [runInputs, ht] using hu)

/-- A cycle of such a run that is neither reset nor a drain adds its increment
to COUNT. -/
theorem runCycle_counted_toNat {p : CycleInput} {ps : List CycleInput} {s t : State}
    (ht : runCycle p s = .next t) (hi : AccumulatorInv s) (hn : NeverSaturates (p :: ps) s)
    (hr : isResetCycle p = false) (hd : isDrainCycle p = false) :
    t.count.toNat = s.count.toNat + if incBit s then 1 else 0 := by
  rw [runCycle_counted ht hr hd, ← eventDue_eq_incBit]
  cases hb : eventDue s with
  | false => simp [hb]
  | true =>
    have hlt := hn.head (by rw [← eventDue_eq_incBit]; exact hb) hd
    simp only [eventIncrement_count, hb, if_true]
    rw [satinc_toNat hi.1.2.1 hi.2.1]
    omega

/-! Host accesses (R39, R73) -/

/-- An access reaches the block exactly if it is 32 bits wide, aligned, and in
the window. -/
theorem accessStop_eq_none {p : Params} {a bits : Nat} :
    accessStop p a bits = none ↔
      bits = 32 ∧ a % 4 = 0 ∧ p.baseAddr ≤ a ∧ a ≤ p.baseAddr + 31 := by
  unfold accessStop
  split <;> [skip; split] <;> [skip; skip; split] <;> [skip; skip; skip; split] <;>
    simp <;> omega

/-- A 32-bit access at a register's address is not stopped, and its index is
the register's. -/
theorem accessStop_register {p : Params} (r : Reg) (hp : p.Legal) :
    accessStop p (p.baseAddr + 4 * r.idx.toNat) 32 = none ∧
    indexAt p (p.baseAddr + 4 * r.idx.toNat) = r.idx := by
  have hi : r.idx.toNat < 8 := r.idx.isLt
  have hb := hp.2.2.2
  exact ⟨accessStop_eq_none.2 ⟨rfl, by omega, by omega, by omega⟩, by simp [indexAt]⟩

theorem dataValue_var {s : State} {t : HostVar} {v : Option Word} (h : s.hostVars[t] = v) :
    dataValue s (.var t) = v := h

/-- A pending access that is stopped stops the step. -/
theorem runPending_of_stop {c : HostCycle} {s : State} {e : Fault ⊕ Refusal}
    (rest : List HostCycle) {a bits : Nat} (he : accessStop s.params a bits = some e)
    (hc : c.request = .load a bits ∨ ∃ d, c.request = .store a bits d) :
    runPending c rest s = e.elim .fault .refused := by
  rcases hc with hc | ⟨d, hc⟩ <;> cases e <;> simp [runPending, busInputs, hc, he]

end Sys2Proof.Machine
end

