-- ==== Sys2Proof/Tests/Slice0.lean ====
section
/-! SUPPORT. Tests on single cycles with the vectors of 95_test_vectors.md, words
written out from the opcode map of R53, ill-formed terms that the checks refuse,
and a witness for the hypotheses of each statement that has any. -/

namespace Sys2Proof.Tests

open Sys2Proof.Machine

/-! ### Ill-formed terms -/

theorem test_evt_has_no_control_word : Instr.wellFormed .evt = false ∧ encode .evt = [] := by
  decide

theorem test_count_width_below_range : ¬ Params.Legal ⟨15, 2, 0⟩ := by decide

theorem test_count_width_above_range : ¬ Params.Legal ⟨33, 2, 0⟩ := by decide

theorem test_one_sync_stage_is_too_few : ¬ Params.Legal ⟨32, 1, 0⟩ := by decide

theorem test_base_address_is_aligned : ¬ Params.Legal ⟨32, 2, 4⟩ := by decide

theorem test_idle_zero_is_ill_formed : (Stmt.idle 0).wellFormed = false := by decide

/-! ### Decoding: every row of R53, written out -/

theorem test_decode_reset_and_idle :
    decodeControl 0b100000 7 = .reset ∧ decodeControl 0b111001 7 = .reset ∧
    decodeControl 0b000000 7 = .idle ∧ decodeControl 0b001001 7 = .idle := by decide

theorem test_decode_reads :
    decodeControl 0b010000 0 = .rdCtrl ∧ decodeControl 0b010001 0 = .rdDrain ∧
    decodeControl 0b010010 0 = .rdLevel ∧ decodeControl 0b010011 0 = .rdTips ∧
    decodeControl 0b010100 0 = .rdEncode ∧ decodeControl 0b010101 0 = .rdStatus ∧
    decodeControl 0b010110 0 = .rdFrameA ∧ decodeControl 0b010111 0 = .rdFrameB := by decide

theorem test_decode_writes :
    decodeControl 0b011000 9 = .wrCtrl 9 ∧ decodeControl 0b011001 9 = .wrDrain 9 ∧
    decodeControl 0b011010 9 = .wrLevel 9 ∧ decodeControl 0b011011 9 = .wrTips 9 ∧
    decodeControl 0b011100 9 = .wrEncode 9 ∧ decodeControl 0b011101 9 = .wrStatus 9 ∧
    decodeControl 0b011110 9 = .wrFrameA 9 ∧ decodeControl 0b011111 9 = .wrFrameB 9 := by decide

/-- R59: `wr LEVEL, 500` is `011010 0x000001F4 0`, `rd DRAIN | 1` is `010001 0x00000000 1`. -/
theorem test_rows_of_R59 :
    cycleRow (.wrLevel 500) false = some ⟨0b011010, 0x000001F4, false⟩ ∧
    cycleRow .rdDrain true = some ⟨0b010001, 0x00000000, true⟩ := by decide

theorem test_record_of_write_level :
    decodeBytes [0x1A, 0xF4, 0x01, 0, 0, 0xAA] = .ok (.wrLevel 500, [0xAA]) := by rfl

theorem test_table_word_with_and_without_data :
    decodeTableWord 8 0x11 = some .rdDrain ∧ decodeTableWord 40 0x1F41A = some (.wrLevel 500) ∧
    decodeTableWord 8 0x40 = none := by decide

/-! ### The encode function: frames of 95_test_vectors.md, section 2.1 -/

/-- E1 and E3. -/
theorem test_frames_wrap :
    (encodeFrame false 500 0).bytes = [0x01, 0xF4, 0x00, 0x00, 0xCD, 0xE6] ∧
    (encodeFrame false 100000 0).bytes = [0x86, 0xA0, 0x00, 0x00, 0xC3, 0xFD] := by
  decide +kernel

/-- E4 and E12. -/
theorem test_frames_saturate :
    (encodeFrame true 100000 0).bytes = [0x7F, 0xFF, 0x00, 0x00, 0xDD, 0x38] ∧
    (encodeFrame true 0xFFFF7FFF 0).bytes = [0x80, 0x00, 0x00, 0x00, 0x59, 0xF8] := by
  decide +kernel

/-- E5 and E8. -/
theorem test_frames_tips :
    (encodeFrame false 0 70000).bytes = [0x00, 0x00, 0xFF, 0xFF, 0x99, 0xCF] ∧
    (encodeFrame true 0 65534).bytes = [0x00, 0x00, 0xFF, 0xFE, 0x89, 0xEE] := by
  decide +kernel

/-- E9 and E19. -/
theorem test_frames_extremes :
    (encodeFrame false 0xFFFFFFFF 0).bytes = [0xFF, 0xFF, 0x00, 0x00, 0x00, 0x00] ∧
    (encodeFrame true 0x7FFFFFFF 0xFFFFFFFF).bytes = [0x7F, 0xFF, 0xFF, 0xFF, 0xC0, 0x37] := by
  decide +kernel

/-! ### Single cycles: the rows of 95_test_vectors.md, section 2.2 -/

/-- The state of a row: COUNT, SYNC, PREV, and one pending cycle. -/
def row (count : Word) (sync : List Bool) (prev : Bool) (c : HostCycle) : State :=
  { State.reset with count := count, sync := sync, prev := prev, script := [c] }

/-- The same with `COUNT_W = 16`. -/
def row16 (count : Word) (sync : List Bool) (prev : Bool) (c : HostCycle) : State :=
  { row count sync prev c with params := ⟨16, 2, 0⟩ }

/-- COUNT, SYNC, PREV and `rdata` of a next state. -/
def events : Host.Outcome State Fault Refusal → Option (Word × List Bool × Bool × Word)
  | .next t => some (t.count, t.sync, t.prev, t.rdata)
  | .fault _ => none
  | .refused _ => none

/-- LEVEL, TIPS, STATUS, FRAME_A, FRAME_B and `rdata` of a next state. -/
def encoder : Host.Outcome State Fault Refusal → Option (Word × Word × Word × Word × Half × Word)
  | .next t => some (t.level, t.tips, statusWord t, t.frameA, t.frameB, t.rdata)
  | .fault _ => none
  | .refused _ => none

/-- Why a step was refused. -/
def refusal : Host.Outcome State Fault Refusal → Option Refusal
  | .next _ => none
  | .fault _ => none
  | .refused r => some r

/-- Why a step faulted. -/
def fault : Host.Outcome State Fault Refusal → Option Fault
  | .next _ => none
  | .fault r => some r
  | .refused _ => none

/-- A1: an event in an idle cycle. -/
theorem test_idle_counts_event :
    events (step (row 3 [false, true] false (cycleIdle false))) =
      some (4, [false, false], true, 0) := by decide

/-- A3: a held level counts once. -/
theorem test_idle_held_level :
    events (step (row 3 [true, true] true (cycleIdle true))) =
      some (3, [true, true], true, 0) := by decide

/-- A6: the increment at the drain's edge lands after the reset point. -/
theorem test_drain_with_event :
    events (step (row 7 [false, true] false (cycleRd .drain none false))) =
      some (1, [false, false], true, 7) := by decide

/-- A10: a saturated 16-bit drain. -/
theorem test_drain_saturated :
    events (step (row16 0xFFFF [false, false] false (cycleRd .drain none false))) =
      some (0, [false, false], false, 0x0000FFFF) := by decide

/-- A7: a write to DRAIN does not clear COUNT. -/
theorem test_write_drain_keeps_count :
    events (step (row 5 [false, true] false (cycleWr .drain (.imm 0) false))) =
      some (6, [false, false], true, 0) := by decide

/-- A8: the increment saturates at 16 bits. -/
theorem test_evt_saturates_at_16_bits :
    events (step (row16 0xFFFF [false, true] false (cycleIdle false))) =
      some (0xFFFF, [false, false], true, 0) := by decide

/-- A11: the increment saturates at 32 bits; by `EVT` alone, SYNC and PREV stay. -/
theorem test_evt_saturates_at_32_bits :
    events (exec .evt (row 0xFFFFFFFF [false, true] false (cycleIdle false))) =
      some (0xFFFFFFFF, [false, true], false, 0) := by decide

/-- A12: reset wins over a drain presented in its cycle. -/
theorem test_reset_overrides_drain :
    events (step (row 4 [true, true] false ⟨.control 0b110001 (.imm 0), none, .high⟩)) =
      some (0, [false, false], false, 0) := by decide

/-- A third synchronizer stage takes the second (L-b). -/
theorem test_three_stages_shift :
    events (exec .idle { row 0 [true, false, true] false (cycleIdle true) with
      params := ⟨32, 3, 0⟩, evtIn := .high }) =
      some (1, [true, true, false], true, 0) := by decide

/-! ### Single cycles on the encoder's registers: section 2.3 -/

/-- V1: CTRL's reserved bits. -/
theorem test_write_ctrl_bit_0_only :
    (match exec (.wrCtrl 0xFFFFFFFE) State.reset with
      | .next t => t.lvlSat | .fault _ => true | .refused _ => true) = false := by decide

theorem test_read_ctrl :
    events (exec .rdCtrl { State.reset with lvlSat := true }) =
      some (0, [false, false], false, 1) := by decide

/-- V4: LEVEL takes all 32 bits. -/
theorem test_write_level :
    encoder (exec (.wrLevel 0xFFFE7960) State.reset) = some (0xFFFE7960, 0, 0, 0, 0, 0) := by
  decide

theorem test_read_level :
    encoder (exec .rdLevel { State.reset with level := 100000 }) =
      some (0x000186A0, 0, 0, 0, 0, 0x000186A0) := by decide

/-- V5: TIPS takes all 32 bits. -/
theorem test_write_tips :
    encoder (exec (.wrTips 70000) State.reset) = some (0, 0x00011170, 0, 0, 0, 0) := by decide

theorem test_read_tips :
    encoder (exec .rdTips { State.reset with tips := 70000 }) =
      some (0, 0x00011170, 0, 0, 0, 0x00011170) := by decide

/-- E21 and R110's example. -/
theorem test_encode_success :
    encoder (exec (.wrEncode 6) { State.reset with level := 500, tips := 2 }) =
      some (500, 2, 0x206, 0x01F40002, 0xEDA4, 0) := by decide +kernel

/-- V9 and V10: a capacity error keeps the frame and FRAME_VALID. -/
theorem test_encode_capacity_error :
    encoder (exec (.wrEncode 5)
        { State.reset with frameA := 9, frameB := 8, nwritten := 6, frameValid := true }) =
      some (0, 0, 0x300, 9, 8, 0) := by decide

/-- V6: a read of ENCODE. -/
theorem test_read_encode :
    encoder (exec .rdEncode { State.reset with rdata := 5 }) = some (0, 0, 0, 0, 0, 0) := by decide

/-- V8's read. -/
theorem test_read_status :
    encoder (exec .rdStatus { State.reset with nwritten := 6, frameValid := true }) =
      some (0, 0, 0x206, 0, 0, 0x206) := by decide

/-- V13: STATUS ignores writes. -/
theorem test_write_status_ignored :
    encoder (exec (.wrStatus 0) { State.reset with capErr := true }) =
      some (0, 0, 0x100, 0, 0, 0) := by decide

/-- V16: FRAME_A ignores writes. -/
theorem test_write_frame_a_ignored :
    encoder (exec (.wrFrameA 0x12345678) { State.reset with frameA := 0x01F40000 }) =
      some (0, 0, 0, 0x01F40000, 0, 0) := by decide

/-- V17: FRAME_B ignores writes. -/
theorem test_write_frame_b_ignored :
    encoder (exec (.wrFrameB 0xFFFFFFFF) { State.reset with frameB := 0xCDE6 }) =
      some (0, 0, 0, 0, 0xCDE6, 0) := by decide

/-- V16's read. -/
theorem test_read_frame_a :
    encoder (exec .rdFrameA { State.reset with frameA := 0x01F40000 }) =
      some (0, 0, 0, 0x01F40000, 0, 0x01F40000) := by decide

/-- V17's read. -/
theorem test_read_frame_b :
    encoder (exec .rdFrameB { State.reset with frameB := 0xCDE6 }) =
      some (0, 0, 0, 0, 0xCDE6, 0x0000CDE6) := by decide

/-! ### The host -/

theorem test_narrow_load_is_refused :
    refusal (step { State.reset with script := [⟨.load 4 8, none, .low⟩] }) =
      some .narrowAccess := by decide

/-- R73: "Accesses of other widths, and misaligned accesses, are refused". -/
theorem test_wide_load_is_refused :
    refusal (step { State.reset with script := [⟨.load 0 64, none, .low⟩] }) =
      some .wideAccess := by decide

theorem test_misaligned_load_is_refused :
    refusal (step { State.reset with script := [⟨.load 6 32, none, .low⟩] }) =
      some .misalignedAccess := by decide

theorem test_access_outside_window_faults :
    fault (step { State.reset with script := [⟨.load 32 32, none, .low⟩] }) =
      some .outsideWindow := by decide

/-- P1, cycle 12: `rd DRAIN -> t0` with COUNT = 2. -/
theorem test_variable_takes_rdata :
    (match step (row 2 [false, false] false (cycleRd .drain (some 0) false)) with
      | .next t => t.hostVars[0] | .fault _ => none | .refused _ => none) = some 2 := by decide

/-- P1, cycle 14: `wr TIPS, t0` before `t0` is written is an error of the script. -/
theorem test_unwritten_variable_is_refused :
    refusal (step { State.reset with script := [cycleWr .tips (.var 0) false] }) =
      some .unwrittenHostVariable := by decide

theorem test_fetch_word_runs :
    events (step ({ State.reset with count := 9 }.withFetchWord 8 0x11)) =
      some (0, [false, false], false, 9) := by decide

/-! ### Witnesses: states and operands that meet the hypotheses of the statements -/

/-- Inputs of a cycle: an idle cycle, a drain, and a reset. -/
def idleInput (e : PinLevel) : CycleInput := ⟨0b000000, 0, e⟩
def drainInput (e : PinLevel) : CycleInput := ⟨0b010001, 0, e⟩
def resetInput (e : PinLevel) : CycleInput := ⟨0b110001, 0xFFFFFFFF, e⟩

/-- A state that meets the invariant, with events counted, one in flight, and
the frame E21 held. -/
def busy : State :=
  { State.reset with
    count := 7, sync := [true, true], lvlSat := true, level := 500, tips := 2,
    nwritten := 6, frameValid := true, frameA := 0x01F40002, frameB := 0xEDA4 }

/-- The same after a capacity error, in another state of the parameters. -/
def busyError : State :=
  { busy with params := ⟨16, 2, 64⟩, count := 0xFFFF, nwritten := 0, capErr := true }

theorem witness_ResetZeroesEveryElement : (resetInput .high).control.getLsbD 5 = true := by
  decide

theorem witness_invariant : busy.Inv ∧ busyError.Inv := by decide +kernel

theorem witness_EveryStepKeepsInvariant :
    busy.Inv ∧ (events (step { busy with script := [cycleRd .drain none true] })).isSome := by
  decide +kernel

theorem witness_StepTakesOnePendingCycle :
    (events (step { busy with script := [cycleRd .drain (some 3) true, cycleIdle false] })).isSome := by
  decide

theorem witness_StepRunsDecodedOperation :
    busInputs (cycleWr .encode (.imm 6) true) busy = .ok ⟨0b011100, 6, .high⟩ := by rfl

theorem witness_StepWithNothingPendingIsFree : busy.script = [] := by decide

theorem witness_EventIncrementSaturates :
    AccumulatorInv busy ∧ incBit busy = true ∧
    AccumulatorInv busyError ∧ incBit busyError = true ∧
    AccumulatorInv State.reset ∧ incBit State.reset = false := by decide

theorem witness_EventLandsBesideEveryOperation :
    (events (exec (.wrEncode 6) busy)).map (·.1) = some 8 ∧
    (events (exec .evt busy)).map (·.1) = some 8 := by decide

theorem witness_SamplingIgnoresTheBus :
    (drainInput .high).control.getLsbD 5 = false ∧ (idleInput .high).control.getLsbD 5 = false ∧
    (events (runCycle (drainInput .high) busy)).map (·.2.1) = some [true, true] := by decide

theorem witness_OnlyDrainOrResetLowersCount :
    busy.params.Legal ∧ (events (exec .rdDrain busy)).map (·.1) = some 1 ∧
    busy.count = 7 := by decide

theorem witness_RisingEdgeIsDueAfterSyncStages :
    AccumulatorInv busy ∧ [idleInput .low].length + 1 = busy.params.syncStages ∧
    (∀ r ∈ [idleInput .low, drainInput .high, idleInput .low], isResetCycle r = false) ∧
    (events (runInputs [idleInput .low, drainInput .high, idleInput .low] busy)).isSome := by
  decide

theorem witness_HighThroughResetCountsOnce :
    busy.params.Legal ∧ isResetCycle (resetInput .high) = true ∧
    (∀ r ∈ [idleInput .high, idleInput .high, idleInput .high],
      isResetCycle r = false ∧ isDrainCycle r = false ∧ r.evt = .high) ∧
    (events (runInputs [resetInput .high, idleInput .high, idleInput .high, idleInput .high]
      busy)).map (·.1) = some 1 := by decide

theorem witness_EventsAreConserved :
    AccumulatorInv busy ∧
    (∀ p ∈ [drainInput .low, idleInput .low], isResetCycle p = false) ∧
    NeverSaturates [drainInput .low, idleInput .low] busy := by
  refine ⟨by decide, by decide, neverSaturates_cons (t := finishDrain (driveRdata busy.count
    (beginCycle (drainInput .low) busy))) rfl (by decide) ?_⟩
  exact neverSaturates_cons (t := finishCycle (driveRdata 0 (beginCycle (idleInput .low) _)))
    rfl (by decide) (neverSaturates_nil _)

/-- COUNT full and an increment due: a drain at that edge loses nothing, an idle
cycle there would saturate. -/
theorem witness_NeverSaturates_at_the_limit :
    incBit busyError = true ∧ NeverSaturates [drainInput .low] busyError ∧
    ¬ NeverSaturates [idleInput .low] busyError := by
  refine ⟨by decide, neverSaturates_cons (t := finishDrain (driveRdata busyError.count
    (beginCycle (drainInput .low) busyError))) rfl (by decide) (neverSaturates_nil _), ?_⟩
  exact fun h => absurd (h.head (by decide) (by decide)) (by decide)

theorem witness_DrainReturnsIncrementsBeforeIt :
    AccumulatorInv busy ∧
    (∀ p ∈ [idleInput .low], isResetCycle p = false ∧ isDrainCycle p = false) ∧
    isDrainCycle (drainInput .high) = true ∧
    busy.count.toNat + increments [idleInput .low] busy < 2 ^ busy.params.countW := by decide

theorem witness_DrainReturnsAndClearsCount : AccumulatorInv busyError := by decide

theorem witness_EncodeWritesFrameOrReportsError :
    (5 : Word).toNat < 6 ∧ 6 ≤ (6 : Word).toNat := by decide

theorem witness_LevelFieldWrapsOrSaturates :
    -32768 ≤ (0xFFFF8000 : Word).toInt ∧ (0xFFFF8000 : Word).toInt ≤ 32767 := by decide

theorem witness_FrameIsBigEndian : (encodeFrame true 100000 2).b0 = 0x7F := by decide

theorem witness_RepeatedEncodeChangesNothing :
    (encoder (exec (.wrEncode 6) busy)).isSome := by decide

theorem witness_ReadFrameBReturnsBytes : FrameInv busy ∧ busy.frameValid = true := by
  decide +kernel

theorem witness_OnlyEncodeOrResetWritesResult :
    (encoder (exec (.wrEncode 5) busy)).isSome ∧ (encoder (exec (.wrFrameA 5) busy)).isSome := by
  decide

theorem witness_OnlyResetClearsFrameValid :
    (events (exec .reset busy)).isSome ∧ busy.frameValid = true ∧
    (resetElements busy).frameValid = false := by decide

theorem witness_EncoderIgnoresTheAccumulator :
    SameEncoder busy { busy with count := 0, sync := [false, false], prev := true } ∧
    (encoder (exec (.wrEncode 6) busy)).isSome := by
  exact ⟨⟨⟨rfl, rfl, rfl⟩, rfl, rfl, rfl, rfl, rfl⟩, by decide⟩

theorem witness_AccumulatorIgnoresTheEncoder :
    SameAccumulator busy { busy with level := 0, frameA := 1 } ∧
    (events (exec .rdDrain busy)).isSome := by
  exact ⟨⟨rfl, rfl, rfl⟩, by decide⟩

theorem witness_UsableFrameCarriesItsChecksum : busy.Inv ∧ FrameUsable busy := by decide +kernel

theorem witness_DecodeOfEncodeIsIdentity : Instr.wellFormed (.wrLevel 0x80000001) = true := by
  decide

theorem witness_OpcodeMapIsTotalAndUnambiguous :
    Instr.wellFormed .idle = true ∧
    (0b001111 : ControlWord) &&& (opcodeRow .idle).2 = (opcodeRow .idle).1 := by decide

theorem witness_DecoderRefusesByName :
    [(0x11 : Byte), 0, 0, 0].length < 5 ∧ 64 ≤ (0x40 : Byte).toNat ∧ (0x3F : Byte).toNat < 64 := by
  decide

theorem witness_NarrowOrMisalignedAccessIsRefused :
    31 < 32 ∧ 7 % 4 ≠ 0 ∧
    ({ busy with script := [⟨.load 7 32, none, .low⟩] } : State).script =
      [⟨.load 7 32, none, .low⟩] := by decide

theorem witness_AccessOfAnotherWidthIsRefused :
    31 ≠ 32 ∧ 33 ≠ 32 ∧
    ({ busy with script := [⟨.store 8 33 (.imm 1), none, .low⟩] } : State).script =
      [⟨.store 8 33 (.imm 1), none, .low⟩] := by decide

/-- The words just below and just above the window of `busyError`, whose
BASE_ADDR is 64; the last word of the window is no witness. -/
theorem witness_AccessOutsideTheWindowFaults :
    60 % 4 = 0 ∧ 60 < busyError.params.baseAddr ∧
    96 % 4 = 0 ∧ busyError.params.baseAddr + 0x1F < 96 ∧
    ¬ busyError.params.baseAddr + 0x1F < 92 := by decide

theorem witness_HostAccessReachesItsRegister :
    busyError.params.Legal ∧ (busy.hostVars.set 3 (some 8))[(3 : HostVar)] = some 8 := by decide

theorem witness_UnwrittenVariableIsAnError :
    busy.params.Legal ∧ busy.hostVars[(3 : HostVar)] = none ∧
    (busy.hostVars.set 3 (some 8))[(3 : HostVar)] = some 8 := by decide

end Sys2Proof.Tests
end

/-! PROOFS. The scope: what a step is, what it changes outside the block, and
that it keeps the invariant (R6, R8, R9, R21, R22, R27, R29). -/

namespace Sys2Proof.Machine

/-! ### The step and its pending cycle -/

theorem step_of_pending {c : HostCycle} {rest : List HostCycle} {s : State}
    (h : s.script = c :: rest) : step s = runPending c rest s := by
  simp only [step, nextCycle, h]

theorem step_of_nothing_pending {s : State} (h : s.script = []) :
    step s = runCycle (Config.freeInput (s.cycle + 1)) s := by
  simp only [step, nextCycle, h]

theorem runPending_of_ok {c : HostCycle} {s : State} {p : CycleInput}
    (rest : List HostCycle) (h : busInputs c s = .ok p) :
    runPending c rest s = afterCycle c.dst (runCycle p { s with script := rest }) := by
  simp only [runPending, h]

/-- A host variable is written only after a cycle that has a next state. -/
theorem afterCycle_eq_next {d : Option HostVar} {o : Host.Outcome State Fault Refusal}
    {t : State} (h : afterCycle d o = .next t) : ∃ u, o = .next u ∧ t = storeVar d u := by
  cases o with
  | next u => cases h; exact ⟨u, rfl, rfl⟩
  | fault r => cases h
  | refused r => cases h

/-- A pending cycle that answers a next state has presented control inputs and
run them with itself taken off the list; then its variable takes `rdata`. -/
theorem runPending_eq_next {c : HostCycle} {rest : List HostCycle} {s t : State}
    (h : runPending c rest s = .next t) :
    ∃ p u, runCycle p { s with script := rest } = .next u ∧ t = storeVar c.dst u := by
  cases hb : busInputs c s with
  | ok p =>
    rw [runPending_of_ok rest hb] at h
    exact ⟨p, afterCycle_eq_next h⟩
  | error e => cases e <;> simp [runPending, hb] at h

theorem storeVar_hostVars_self (v : HostVar) (s : State) :
    (storeVar (some v) s).hostVars[v] = some s.rdata := by
  simp [storeVar]

theorem storeVar_hostVars_of_ne {d : Option HostVar} {v : HostVar} (s : State)
    (h : d ≠ some v) : (storeVar d s).hostVars[v] = s.hostVars[v] := by
  cases d with
  | none => rfl
  | some w =>
    have hw : (w : Nat) ≠ v := fun e => h (congrArg some (Fin.ext e))
    exact Vector.getElem_set_ne w.isLt v.isLt hw

/-! ### STATUS and the frame registers -/

/-- The part of the invariant about STATUS and the frame registers reads
nothing but the result of an encode. -/
theorem SameResult.resultInv {s t : State} (h : SameResult s t)
    (hi : StatusInv s ∧ FrameInv s) : StatusInv t ∧ FrameInv t := by
  obtain ⟨hn, hc, hv, ha, hb⟩ := h
  simpa only [StatusInv, FrameInv, hn, hc, hv, ha, hb] using hi

/-- The frame registers are written with the checksum of the bytes beside it (R103). -/
theorem reportEncoded_frameInv (lvl tip : Half) (s : State) :
    FrameInv (reportEncoded (frameOf lvl tip) s) := by
  obtain ⟨h0, h1, h2, h3⟩ := packA_bytes (frameOf lvl tip)
  have hb : packB (frameOf lvl tip) = fieldCrc lvl tip := highByte_append_lowByte _
  refine ⟨fun _ => ?_, nofun⟩
  rw [reportEncoded_frameA, reportEncoded_frameB, h0, h1, h2, h3, hb]
  rfl

/-- Either outcome of `WR ENCODE` is a legal result (R110). -/
theorem writeEncode_resultInv (w : Word) {s : State} (h : FrameInv s) :
    StatusInv (writeEncode w s) ∧ FrameInv (writeEncode w s) := by
  unfold writeEncode
  split
  · exact ⟨reportCapacityError_statusInv s, h⟩
  · exact ⟨reportEncoded_statusInv _ s, reportEncoded_frameInv _ _ s⟩

/-- No other bus path but that of reset writes the result (R28). -/
theorem busPath_sameResult {i : Instr} (s : State) (hr : i ≠ .reset)
    (he : ∀ w, i ≠ .wrEncode w) : SameResult s (busPath i s) := by
  cases i <;> simp_all [busPath, SameResult]

theorem busPath_resultInv {i : Instr} {s : State} (hr : i ≠ .reset)
    (hi : StatusInv s ∧ FrameInv s) :
    StatusInv (busPath i s) ∧ FrameInv (busPath i s) := by
  by_cases he : ∃ w, i = .wrEncode w
  · obtain ⟨w, rfl⟩ := he
    exact writeEncode_resultInv w hi.2
  · exact (busPath_sameResult s hr fun w hw => he ⟨w, hw⟩).resultInv hi

/-! ### The invariant -/

theorem exec_resultInv {i : Instr} {s t : State} (h : exec i s = .next t)
    (hl : s.params.Legal) (hi : StatusInv s ∧ FrameInv s) : StatusInv t ∧ FrameInv t := by
  rcases exec_cases h with ⟨-, rfl⟩ | ⟨-, rfl⟩ | ⟨-, rfl⟩ | ⟨hr, -, -, rfl⟩
  · exact (resetElements_inv hl).2
  · exact hi
  · exact hi
  · exact busPath_resultInv hr hi

theorem runCycle_inv {p : CycleInput} {s t : State} (h : runCycle p s = .next t)
    (hi : s.Inv) : t.Inv :=
  ⟨runCycle_accumulatorInv h hi.1, exec_resultInv h hi.1.1 hi.2⟩

theorem storeVar_inv (d : Option HostVar) {s : State} (hi : s.Inv) : (storeVar d s).Inv := by
  cases d <;> exact hi

/-! ### The obligations -/

/-- Settles O6: the step is a cycle on free inputs, or a pending cycle followed
by the write of a host variable, and each of these keeps the invariant. -/
theorem everyStepKeepsInvariant : Obligations.EveryStepKeepsInvariant := by
  intro s t hi h
  cases hs : s.script with
  | nil => exact runCycle_inv (step_of_nothing_pending hs ▸ h) hi
  | cons c rest =>
    obtain ⟨p, u, hu, rfl⟩ := runPending_eq_next (step_of_pending hs ▸ h)
    exact storeVar_inv c.dst (runCycle_inv hu hi)

/-- Settles O7: the cycle itself keeps what is outside the block, so only the
write of the host variable remains. -/
theorem stepTakesOnePendingCycle : Obligations.StepTakesOnePendingCycle := by
  intro c rest s t hs h
  obtain ⟨p, u, hu, rfl⟩ := runPending_eq_next (step_of_pending hs ▸ h)
  obtain ⟨hp, hc, -, hr, hv⟩ := runCycle_outside hu
  refine ⟨by simpa using hp, by simpa using hr, by simpa using hc, fun v hd => ?_,
    fun v hd => ?_⟩
  · rw [storeVar_rdata, hd]
    exact storeVar_hostVars_self v u
  · rw [storeVar_hostVars_of_ne u hd, hv]

/-- Settles O4: every arm of `exec` is a next state. -/
theorem everyOperationHasASuccessor : Obligations.EveryOperationHasASuccessor := by
  intro i s
  cases i <;> exact ⟨_, rfl⟩

/-- Settles O5: reset takes every element to the value `resetElements` gives it,
under the parameters that R6 assumes. -/
theorem resetStateMeetsInvariant : Obligations.ResetStateMeetsInvariant := by
  have hl : State.reset.params.Legal := by decide
  exact resetElements_inv hl

/-- Settles O8. -/
theorem stepRunsDecodedOperation : Obligations.StepRunsDecodedOperation := by
  intro c rest s p hs hp
  rw [step_of_pending hs, runPending_of_ok rest hp]
  rfl

/-- Settles O9. -/
theorem stepWithNothingPendingIsFree : Obligations.StepWithNothingPendingIsFree :=
  fun _ => step_of_nothing_pending

end Sys2Proof.Machine

/-! PROOFS. The state: which operations write which of its elements, that the
accumulator does not read the encoder, how a host access reaches a register, and
the state after reset (R20, R26, R27, R28, R34, R35, R47, R73). -/

namespace Sys2Proof.Machine

/-! ### COUNT -/

/-- With `COUNT_W` at most 32 the increment never lowers COUNT, not even one
that is above `COUNT_W` bits (R71). -/
theorem le_satinc {w : Nat} (v : Word) (hw : w ≤ 32) : v.toNat ≤ (satinc w v).toNat := by
  have hp : 2 ^ w ≤ 2 ^ 32 := Nat.pow_le_pow_right (by omega) hw
  unfold satinc
  split
  · rw [BitVec.toNat_add]
    simp
    omega
  · exact le_rfl

/-- The event increment never lowers COUNT (R63). -/
theorem le_eventIncrement_count {s : State} (hl : s.params.Legal) :
    s.count.toNat ≤ (eventIncrement s).count.toNat := by
  rw [eventIncrement_count]
  split
  · exact le_satinc s.count hl.2.1
  · exact le_rfl

/-! ### STATUS and the frame registers -/

theorem writeEncode_of_lt {w : Word} (s : State) (h : w.toNat < 6) :
    writeEncode w s = reportCapacityError s :=
  if_pos h

/-- Either outcome of an encode leaves a held frame held (R27, R110). -/
theorem writeEncode_keeps_frameValid (w : Word) {s : State} (h : s.frameValid = true) :
    (writeEncode w s).frameValid = true := by
  unfold writeEncode
  split
  · exact h
  · rfl

theorem busPath_keeps_frameValid {i : Instr} {s : State} (hr : i ≠ .reset)
    (h : s.frameValid = true) : (busPath i s).frameValid = true := by
  by_cases he : ∃ w, i = .wrEncode w
  · obtain ⟨w, rfl⟩ := he
    exact writeEncode_keeps_frameValid w h
  · obtain ⟨-, -, hv, -⟩ := busPath_sameResult s hr fun w hw => he ⟨w, hw⟩
    exact hv.trans h

/-- The result of an encode after any operation is what its bus path left: the
event path of the same edge does not write it (R61). -/
theorem exec_sameResult_busPath {i : Instr} {s t : State} (h : exec i s = .next t) :
    SameResult (busPath i s) t := by
  rcases exec_cases h with ⟨rfl, rfl⟩ | ⟨rfl, rfl⟩ | ⟨rfl, rfl⟩ | ⟨-, -, -, rfl⟩ <;>
    exact ⟨rfl, rfl, rfl, rfl, rfl⟩

/-! ### What the accumulator reads -/

/-- The two states agree on everything that the accumulator reads: COUNT, SYNC,
PREV, the parameters, and the pin in the cycle being run (R61). -/
def SameEventInputs (s t : State) : Prop :=
  SameAccumulator s t ∧ t.params = s.params ∧ t.evtIn = s.evtIn ∧ t.cycle = s.cycle

section
variable {s t : State}

theorem SameEventInputs.eventDue_eq (h : SameEventInputs s t) : eventDue t = eventDue s :=
  eventDue_congr h.2.1 h.1

theorem SameEventInputs.eventIncrement_count_eq (h : SameEventInputs s t) :
    (eventIncrement t).count = (eventIncrement s).count := by
  obtain ⟨⟨hc, -, -⟩, hp, -, -⟩ := id h
  simp only [eventIncrement_count, h.eventDue_eq, hc, hp]

theorem SameEventInputs.sampleInput_eq (h : SameEventInputs s t) :
    (sampleInput t).sync = (sampleInput s).sync ∧ (sampleInput t).prev = (sampleInput s).prev := by
  obtain ⟨⟨-, hs, -⟩, hp, he, hk⟩ := h
  exact ⟨by simp only [sampleInput_sync, hs, hp, he, hk], lastStage_congr hp hs⟩

theorem SameEventInputs.sameAccumulator_resetElements (h : SameEventInputs s t) :
    SameAccumulator (resetElements s) (resetElements t) := by
  obtain ⟨-, hp, -, -⟩ := h
  exact ⟨rfl, by simp only [resetElements_sync, hp], rfl⟩

/-- EVT alone samples nothing (R63). -/
theorem SameEventInputs.sameAccumulator_eventIncrement (h : SameEventInputs s t) :
    SameAccumulator (eventIncrement s) (eventIncrement t) := by
  obtain ⟨⟨-, hs, hv⟩, -⟩ := id h
  exact ⟨h.eventIncrement_count_eq, hs, hv⟩

theorem SameEventInputs.sameAccumulator_finishDrain (h : SameEventInputs s t) (v w : Word) :
    SameAccumulator (finishDrain (driveRdata v s)) (finishDrain (driveRdata w t)) := by
  refine ⟨?_, h.sampleInput_eq⟩
  simp only [finishDrain_count, eventDue_driveRdata, h.eventDue_eq]

/-- The bus path of the cycle does not matter: it leaves COUNT, SYNC and PREV alone. -/
theorem SameEventInputs.sameAccumulator_finishCycle {i : Instr} (h : SameEventInputs s t)
    (hr : i ≠ .reset) :
    SameAccumulator (finishCycle (busPath i s)) (finishCycle (busPath i t)) := by
  obtain ⟨hc, hs, hv⟩ := finishCycle_busPath s hr
  obtain ⟨hc', hs', hv'⟩ := finishCycle_busPath t hr
  obtain ⟨hsync, hprev⟩ := h.sampleInput_eq
  exact ⟨by rw [hc, hc', h.eventIncrement_count_eq], by rw [hs, hs', hsync],
    by rw [hv, hv', hprev]⟩

end

/-- An operation that is neither reset, EVT nor a drain has the one answer left. -/
theorem exec_eq_finishCycle {i : Instr} {s t : State} (h : exec i s = .next t)
    (hr : i ≠ .reset) (he : i ≠ .evt) (hd : i ≠ .rdDrain) : t = finishCycle (busPath i s) := by
  rcases exec_cases h with ⟨hi, -⟩ | ⟨hi, -⟩ | ⟨hi, -⟩ | ⟨-, -, -, ht⟩
  · exact absurd hi hr
  · exact absurd hi he
  · exact absurd hi hd
  · exact ht

/-! ### Host accesses -/

/-- The control word of a bus access decodes to the read or the write of the
register it names (R51, R56). -/
theorem decodeControl_busWord (r : Reg) (w : Word) :
    decodeControl (busWord false r.idx) w = readOf r ∧
    decodeControl (busWord true r.idx) w = writeOf r w := by
  cases r <;> exact ⟨rfl, rfl⟩

theorem busInputs_load_register {s : State} (r : Reg) (dst : Option HostVar) (e : PinLevel)
    (hl : s.params.Legal) :
    busInputs ⟨.load (s.params.baseAddr + 4 * r.idx.toNat) 32, dst, e⟩ s =
      .ok ⟨busWord false r.idx, 0, e⟩ := by
  obtain ⟨hstop, hidx⟩ := accessStop_register r hl
  simp only [busInputs, hstop, hidx]

theorem busInputs_store_register {s : State} {d : Data} {v : Word} (r : Reg)
    (dst : Option HostVar) (e : PinLevel) (hl : s.params.Legal) (hd : dataValue s d = some v) :
    busInputs ⟨.store (s.params.baseAddr + 4 * r.idx.toNat) 32 d, dst, e⟩ s =
      .ok ⟨busWord true r.idx, v, e⟩ := by
  obtain ⟨hstop, hidx⟩ := accessStop_register r hl
  simp only [busInputs, hstop, hidx, hd]

/-! ### Reset -/

theorem resetElements_allZero (s : State) : AllZero (resetElements s) :=
  ⟨rfl, rfl, rfl, rfl, rfl, rfl, rfl, rfl, rfl, rfl, rfl, rfl⟩

/-! ### The obligations -/

/-- Settles O16: of the four shapes of an operation, the increment and the cycle
that ends in one never lower COUNT. -/
theorem onlyDrainOrResetLowersCount : Obligations.OnlyDrainOrResetLowersCount := by
  intro i s t hl h hlt
  have hle := le_eventIncrement_count hl
  rcases exec_cases h with ⟨hi, -⟩ | ⟨-, rfl⟩ | ⟨hi, -⟩ | ⟨hr, -, -, rfl⟩
  · exact .inr hi
  · exact absurd hle (Nat.not_le.2 hlt)
  · exact .inl hi
  · rw [(finishCycle_busPath s hr).1] at hlt
    exact absurd hle (Nat.not_le.2 hlt)

/-- Settles O42: the result is what the bus path leaves of it, and a capacity
error writes only NWRITTEN and CAP_ERR. -/
theorem onlyEncodeOrResetWritesResult : Obligations.OnlyEncodeOrResetWritesResult := by
  intro i s t h hr
  obtain ⟨hn, hc, hv, ha, hb⟩ := exec_sameResult_busPath h
  constructor
  · intro he
    obtain ⟨hn', hc', hv', ha', hb'⟩ := busPath_sameResult s hr he
    exact ⟨hn.trans hn', hc.trans hc', hv.trans hv', ha.trans ha', hb.trans hb'⟩
  · rintro w rfl hw
    have hbus : busPath (.wrEncode w) s = reportCapacityError (driveRdata 0 s) :=
      writeEncode_of_lt _ hw
    rw [hbus] at hv ha hb
    exact ⟨hv, ha, hb⟩

/-- Settles O43: every bus path but that of reset keeps FRAME_VALID set. -/
theorem onlyResetClearsFrameValid : Obligations.OnlyResetClearsFrameValid := by
  intro i s t h hs ht
  by_contra hr
  obtain ⟨-, -, hv, -⟩ := exec_sameResult_busPath h
  rw [busPath_keeps_frameValid hr hs, ht] at hv
  cases hv

/-- Settles O47: each of the four shapes of an operation answers the accumulator
from what the two states agree on. -/
theorem accumulatorIgnoresTheEncoder : Obligations.AccumulatorIgnoresTheEncoder := by
  intro i s t s' t' ha hp he hk h h'
  have hin : SameEventInputs s t := ⟨ha, hp, he, hk⟩
  rcases exec_cases h with ⟨rfl, rfl⟩ | ⟨rfl, rfl⟩ | ⟨rfl, rfl⟩ | ⟨hr, hv, hd, rfl⟩
  · cases h'
    exact ⟨hin.sameAccumulator_resetElements, nofun⟩
  · cases h'
    exact ⟨hin.sameAccumulator_eventIncrement, nofun⟩
  · cases h'
    exact ⟨hin.sameAccumulator_finishDrain _ _, fun _ => ha.1.symm⟩
  · rw [exec_eq_finishCycle h' hr hv hd]
    exact ⟨hin.sameAccumulator_finishCycle hr, fun hi => absurd hi hd⟩

/-- Settles O54: the access presents the bus word of the register at its address. -/
theorem hostAccessReachesItsRegister : Obligations.HostAccessReachesItsRegister := by
  intro s r v dst e hl
  have hstore : ∀ d, dataValue s d = some v →
      (busInputs ⟨.store (s.params.baseAddr + 4 * r.idx.toNat) 32 d, dst, e⟩ s).map
        (fun p => (decodeControl p.control p.wdata, p.evt)) = .ok (writeOf r v, e) := by
    intro d hd
    rw [busInputs_store_register r dst e hl hd, Except.map, (decodeControl_busWord r v).2]
  refine ⟨?_, hstore _ rfl, fun x hx => hstore _ (dataValue_var hx)⟩
  rw [busInputs_load_register r dst e hl, Except.map, (decodeControl_busWord r 0).1]

/-- Settles O2: reset takes every element to the value `resetElements` gives it. -/
theorem resetStateIsZero : Obligations.ResetStateIsZero :=
  ⟨resetElements_allZero State.reset, rfl, rfl⟩

end Sys2Proof.Machine

/-! PROOFS. Memory: how a frame lies in its registers, what a write leaves for the
next cycle to read, and which host accesses do not reach the block (R29, R37, R38,
R39, R41, R42, R44, R73, R110, R150, R151). -/

namespace Sys2Proof.Machine

/-! ### The frame registers -/

/-- The bytes of FRAME_B are the last two bytes of the frame packed into it (R29). -/
theorem packB_bytes (f : Frame) : highByte (packB f) = f.b4 ∧ lowByte (packB f) = f.b5 := by
  unfold packB highByte lowByte
  exact ⟨BitVec.extractLsb'_append_eq_left, BitVec.extractLsb'_append_eq_right⟩

/-- Reading the two registers most significant byte first undoes the packing (R37). -/
theorem unpackFrame_pack (f : Frame) : unpackFrame (packA f) (packB f) = f := by
  obtain ⟨h0, h1, h2, h3⟩ := packA_bytes f
  obtain ⟨h4, h5⟩ := packB_bytes f
  simp only [unpackFrame, h0, h1, h2, h3, h4, h5]

/-- FRAME_A is the level field above the tips field (R29, R103). -/
theorem packA_frameOf (lvl tip : Half) : packA (frameOf lvl tip) = lvl ++ tip := by
  have hassoc : packA (frameOf lvl tip) =
      (highByte lvl ++ lowByte lvl) ++ (highByte tip ++ lowByte tip) :=
    BitVec.append_assoc
  rw [hassoc, highByte_append_lowByte, highByte_append_lowByte]

/-- FRAME_B is the checksum of the two fields (R29, R103). -/
theorem packB_frameOf (lvl tip : Half) : packB (frameOf lvl tip) = fieldCrc lvl tip :=
  highByte_append_lowByte _

theorem toNat_append_half (x y : Half) : (x ++ y).toNat = 65536 * x.toNat + y.toNat := by
  rw [BitVec.toNat_append, ← Nat.shiftLeft_add_eq_or_of_lt y.isLt, Nat.shiftLeft_eq]
  omega

/-! ### A repeated encode -/

/-- The operands of an encode after any operation are what its bus path left: the
event path of the same edge does not write them (R61). -/
theorem exec_sameOperands_busPath {i : Instr} {s t : State} (h : exec i s = .next t) :
    SameOperands (busPath i s) t := by
  rcases exec_cases h with ⟨rfl, rfl⟩ | ⟨rfl, rfl⟩ | ⟨rfl, rfl⟩ | ⟨-, -, -, rfl⟩ <;>
    exact ⟨rfl, rfl, rfl⟩

theorem exec_sameEncoder_busPath {i : Instr} {s t : State} (h : exec i s = .next t) :
    SameEncoder (busPath i s) t :=
  ⟨exec_sameOperands_busPath h, exec_sameResult_busPath h⟩

theorem writeEncode_of_le {w : Word} (s : State) (h : 6 ≤ w.toNat) :
    writeEncode w s = reportEncoded (encodeFrame s.lvlSat s.level s.tips) s :=
  if_neg (Nat.not_lt.2 h)

/-- An encode is idempotent on the encoder: a state whose encoder is as some encode
left it is not changed there by the same encode (R41, R110). -/
theorem sameEncoder_writeEncode {w : Word} {s t : State} (h : SameEncoder (writeEncode w s) t) :
    SameEncoder t (writeEncode w t) := by
  obtain ⟨⟨hsat, hlevel, htips⟩, hn, hc, hv, ha, hb⟩ := h
  rcases Nat.lt_or_ge w.toNat 6 with hw | hw
  · rw [writeEncode_of_lt s hw] at hn hc
    rw [writeEncode_of_lt t hw]
    exact ⟨⟨rfl, rfl, rfl⟩, hn.symm, hc.symm, rfl, rfl, rfl⟩
  · rw [writeEncode_of_le s hw] at hsat hlevel htips hn hc hv ha hb
    have hf : encodeFrame t.lvlSat t.level t.tips = encodeFrame s.lvlSat s.level s.tips := by
      rw [hsat, hlevel, htips]; rfl
    rw [writeEncode_of_le t hw, hf]
    exact ⟨⟨rfl, rfl, rfl⟩, hn.symm, hc.symm, hv.symm, ha.symm, hb.symm⟩

theorem SameEncoder.trans {s t u : State} (h : SameEncoder s t) (h' : SameEncoder t u) :
    SameEncoder s u := by
  obtain ⟨⟨hsat, hlevel, htips⟩, hn, hc, hv, ha, hb⟩ := h
  obtain ⟨⟨hsat', hlevel', htips'⟩, hn', hc', hv', ha', hb'⟩ := h'
  exact ⟨⟨hsat'.trans hsat, hlevel'.trans hlevel, htips'.trans htips⟩, hn'.trans hn,
    hc'.trans hc, hv'.trans hv, ha'.trans ha, hb'.trans hb⟩

/-! ### A write and a read in the next cycle -/

/-- A write is its bus path, then the edge without a drain (R61). -/
theorem exec_writeOf (r : Reg) (w : Word) (s : State) :
    exec (writeOf r w) s = .next (finishCycle (busPath (writeOf r w) s)) := by
  cases r <;> rfl

/-- A read of any register but DRAIN is its bus path, then the edge without a drain (R61). -/
theorem exec_readOf {r : Reg} (hr : r ≠ .drain) (s : State) :
    exec (readOf r) s = .next (finishCycle (busPath (readOf r) s)) := by
  cases r
  case drain => exact absurd rfl hr
  all_goals rfl

/-- The edge between two cycles does not change what a read of any register but
DRAIN returns. -/
theorem busPath_readOf_rdata {r : Reg} (hr : r ≠ .drain) (p : CycleInput) (s : State) :
    (busPath (readOf r) (beginCycle p (finishCycle s))).rdata = (busPath (readOf r) s).rdata := by
  cases r
  case drain => exact absurd rfl hr
  all_goals rfl

/-- A bus write, and in the next cycle a bus read of any register but DRAIN: the read
returns what its register holds after the bus path of the write (R44, R151). -/
theorem runInputs_write_read (r : Reg) {q : Reg} (hq : q ≠ .drain) (w v : Word)
    (e f : PinLevel) (s : State) :
    ∃ t, runInputs [⟨busWord true r.idx, w, e⟩, ⟨busWord false q.idx, v, f⟩] s = .next t ∧
      t.rdata = (busPath (readOf q)
        (busPath (writeOf r w) (beginCycle ⟨busWord true r.idx, w, e⟩ s))).rdata := by
  have hread := busPath_readOf_rdata hq ⟨busWord false q.idx, v, f⟩
  refine ⟨_, ?_, (finishCycle_rdata _).trans (hread _)⟩
  simp only [runInputs, runCycle, (decodeControl_busWord r w).2, (decodeControl_busWord q v).1,
    exec_writeOf, exec_readOf hq]

theorem ctrlWord_eq_ite (s : State) : ctrlWord s = if s.lvlSat then 1 else 0 := by
  unfold ctrlWord
  cases s.lvlSat <;> rfl

/-! ### Host accesses that do not reach the block -/

/-- An access of any width but 32 bits is stopped, whatever its address (R39, R73). -/
theorem accessStop_of_width_ne (p : Params) (a : Nat) {bits : Nat} (h : bits ≠ 32) :
    accessStop p a bits = some (.inr (if bits < 32 then .narrowAccess else .wideAccess)) := by
  unfold accessStop
  rcases Nat.lt_or_gt_of_ne h with hlt | hgt
  · rw [if_pos hlt, if_pos hlt]
  · rw [if_neg (Nat.lt_asymm hgt), if_pos hgt, if_neg (Nat.lt_asymm hgt)]

/-- A misaligned 32-bit access is stopped, wherever it points (R39, R73). -/
theorem accessStop_of_misaligned (p : Params) {a : Nat} (h : a % 4 ≠ 0) :
    accessStop p a 32 = some (.inr .misalignedAccess) :=
  if_pos h

/-- An aligned 32-bit access outside the window is stopped (R73). -/
theorem accessStop_of_outside {p : Params} {a : Nat} (h : a % 4 = 0)
    (ho : a < p.baseAddr ∨ p.baseAddr + 31 < a) :
    accessStop p a 32 = some (.inl .outsideWindow) :=
  (if_neg (not_not.2 h)).trans (if_pos ho)

/-- A step whose pending cycle is a load or a store that is stopped stops as the
access does. -/
theorem step_of_stop {s : State} {a bits : Nat} {v : Data} {dst : Option HostVar}
    {e : PinLevel} {rest : List HostCycle} {stop : Fault ⊕ Refusal}
    (hs : s.script = ⟨.load a bits, dst, e⟩ :: rest ∨ s.script = ⟨.store a bits v, dst, e⟩ :: rest)
    (h : accessStop s.params a bits = some stop) : step s = stop.elim .fault .refused := by
  rcases hs with hs | hs
  · rw [step_of_pending hs]
    exact runPending_of_stop rest h (.inl rfl)
  · rw [step_of_pending hs]
    exact runPending_of_stop rest h (.inr ⟨v, rfl⟩)

/-! ### The obligations -/

/-- Settles O33: unpacking undoes packing, and the packed registers are the fields
that the frame carries. -/
theorem frameRegistersKeepWireOrder : Obligations.FrameRegistersKeepWireOrder := by
  intro sat l n
  refine ⟨congrArg Frame.bytes (unpackFrame_pack _), ?_, ?_⟩
  · exact (congrArg BitVec.toNat (packA_frameOf _ _)).trans (toNat_append_half _ _)
  · exact congrArg BitVec.toNat (packB_frameOf _ _)

/-- Settles O28: both cycles leave the encoder as their bus path does, and the bus
path of the second finds it as that of the first left it. -/
theorem repeatedEncodeChangesNothing : Obligations.RepeatedEncodeChangesNothing := by
  intro w s t u ht hu
  have hfirst : SameEncoder (writeEncode w (driveRdata 0 s)) t := exec_sameEncoder_busPath ht
  have hsecond : SameEncoder (writeEncode w (driveRdata 0 t)) u := exec_sameEncoder_busPath hu
  exact (sameEncoder_writeEncode (t := driveRdata 0 t) hfirst).trans hsecond

/-- Settles O44. -/
theorem writeIsReadInTheNextCycle : Obligations.WriteIsReadInTheNextCycle := by
  intro w v e f s
  refine ⟨runInputs_write_read .level (q := .level) nofun w v e f s,
    runInputs_write_read .tips (q := .tips) nofun w v e f s, ?_⟩
  obtain ⟨t, ht, hr⟩ := runInputs_write_read .ctrl (q := .ctrl) nofun w v e f s
  exact ⟨t, ht, hr.trans (ctrlWord_eq_ite _)⟩

/-- Settles O53: a width other than 32 bits is refused by its width, and at 32 bits
the access is misaligned. -/
theorem narrowOrMisalignedAccessIsRefused : Obligations.NarrowOrMisalignedAccessIsRefused := by
  intro s a bits v dst e rest h hs
  rcases Nat.lt_trichotomy bits 32 with hlt | rfl | hgt
  · have hstop := accessStop_of_width_ne s.params a hlt.ne
    rw [if_pos hlt] at hstop
    exact .inl (step_of_stop hs hstop)
  · have hmis : a % 4 ≠ 0 := h.resolve_left (Nat.lt_irrefl 32)
    exact .inr (.inl (step_of_stop hs (accessStop_of_misaligned s.params hmis)))
  · have hstop := accessStop_of_width_ne s.params a hgt.ne'
    rw [if_neg hgt.not_gt] at hstop
    exact .inr (.inr ⟨hgt, step_of_stop hs hstop⟩)

/-- Settles O58. -/
theorem accessOfAnotherWidthIsRefused : Obligations.AccessOfAnotherWidthIsRefused := by
  intro s a bits v dst e rest h hs
  exact step_of_stop hs (accessStop_of_width_ne s.params a h)

/-- Settles O59. -/
theorem accessOutsideTheWindowFaults : Obligations.AccessOutsideTheWindowFaults := by
  intro s a v dst e rest ha ho hs
  exact step_of_stop hs (accessStop_of_outside ha ho)

end Sys2Proof.Machine

/-! PROOFS. The encoding: the opcode map, the byte record of an operation, and the
control inputs that a statement of a script presents (R51, R53, R54, R56, R57, R58, R73). -/

namespace Sys2Proof.Machine

/-! ### The opcode map -/

/-- A control word that selects the bus, without reset, is the bus word of its fields (R51). -/
theorem controlWord_eq_busWord {cw : ControlWord} (h5 : cw.getLsbD 5 = false)
    (h4 : cw.getLsbD 4 = true) :
    cw = busWord (cw.getLsbD 3) (regOfIdx (cw.extractLsb' 0 3)).idx := by
  have hf := controlWord_fields cw
  rw [h5, h4] at hf
  rw [idx_regOfIdx]
  exact hf.symm

/-- The control word lies in the operation's row of the opcode map (R53). -/
def InRow (cw : ControlWord) (i : Instr) : Prop :=
  cw &&& (opcodeRow i).2 = (opcodeRow i).1

theorem inRow_reset (cw : ControlWord) : InRow cw .reset ↔ cw.getLsbD 5 = true := by
  unfold InRow opcodeRow
  revert cw; decide

theorem inRow_idle (cw : ControlWord) :
    InRow cw .idle ↔ cw.getLsbD 5 = false ∧ cw.getLsbD 4 = false := by
  unfold InRow opcodeRow
  revert cw; decide

/-- The mask of a bus row is every bit, so its match is the only word of the row. -/
theorem inRow_readOf (cw : ControlWord) (r : Reg) :
    InRow cw (readOf r) ↔ cw = busWord false r.idx := by
  have hrow : opcodeRow (readOf r) = (busWord false r.idx, BitVec.allOnes 6) := by
    cases r <;> rfl
  rw [InRow, hrow, BitVec.and_allOnes]

theorem inRow_writeOf (cw : ControlWord) (r : Reg) (w : Word) :
    InRow cw (writeOf r w) ↔ cw = busWord true r.idx := by
  have hrow : opcodeRow (writeOf r w) = (busWord true r.idx, BitVec.allOnes 6) := by
    cases r <;> rfl
  rw [InRow, hrow, BitVec.and_allOnes]

/-- Every operation but EVT is reset, idle, or the read or the write of a register (R70). -/
theorem wellFormed_cases {i : Instr} (h : i.wellFormed = true) :
    i = .reset ∨ i = .idle ∨ (∃ r, i = readOf r) ∨ ∃ r w, i = writeOf r w := by
  cases i with
  | reset => exact .inl rfl
  | idle => exact .inr (.inl rfl)
  | rdCtrl => exact .inr (.inr (.inl ⟨.ctrl, rfl⟩))
  | rdDrain => exact .inr (.inr (.inl ⟨.drain, rfl⟩))
  | rdLevel => exact .inr (.inr (.inl ⟨.level, rfl⟩))
  | rdTips => exact .inr (.inr (.inl ⟨.tips, rfl⟩))
  | rdEncode => exact .inr (.inr (.inl ⟨.encode, rfl⟩))
  | rdStatus => exact .inr (.inr (.inl ⟨.status, rfl⟩))
  | rdFrameA => exact .inr (.inr (.inl ⟨.frameA, rfl⟩))
  | rdFrameB => exact .inr (.inr (.inl ⟨.frameB, rfl⟩))
  | wrCtrl w => exact .inr (.inr (.inr ⟨.ctrl, w, rfl⟩))
  | wrDrain w => exact .inr (.inr (.inr ⟨.drain, w, rfl⟩))
  | wrLevel w => exact .inr (.inr (.inr ⟨.level, w, rfl⟩))
  | wrTips w => exact .inr (.inr (.inr ⟨.tips, w, rfl⟩))
  | wrEncode w => exact .inr (.inr (.inr ⟨.encode, w, rfl⟩))
  | wrStatus w => exact .inr (.inr (.inr ⟨.status, w, rfl⟩))
  | wrFrameA w => exact .inr (.inr (.inr ⟨.frameA, w, rfl⟩))
  | wrFrameB w => exact .inr (.inr (.inr ⟨.frameB, w, rfl⟩))
  | evt => cases h

theorem encodeData_writeOf (r : Reg) (w : Word) : encodeData (writeOf r w) = w := by
  cases r <;> rfl

theorem wellFormed_decodeControl (cw : ControlWord) (w : Word) :
    (decodeControl cw w).wellFormed = true := by
  have hne := decodeControl_ne_evt cw w
  cases hi : decodeControl cw w
  case evt => exact absurd hi hne
  all_goals rfl

/-- A control word lies in the row of the operation it decodes to (R53, R56). -/
theorem inRow_decodeControl (cw : ControlWord) (w : Word) : InRow cw (decodeControl cw w) := by
  cases h5 : cw.getLsbD 5 with
  | true =>
    rw [decode_reset w h5]
    exact (inRow_reset cw).2 h5
  | false =>
    cases h4 : cw.getLsbD 4 with
    | false =>
      rw [decode_idle w h5 h4]
      exact (inRow_idle cw).2 ⟨h5, h4⟩
    | true =>
      have hbus := controlWord_eq_busWord h5 h4
      cases h3 : cw.getLsbD 3 with
      | false =>
        rw [decode_read w h5 h4 h3]
        exact (inRow_readOf cw _).2 (h3 ▸ hbus)
      | true =>
        rw [decode_write w h5 h4 h3]
        exact (inRow_writeOf cw _ w).2 (h3 ▸ hbus)

/-- A control word decodes to every operation in whose row it lies, but EVT (R53). -/
theorem decodeControl_of_inRow {cw : ControlWord} {i : Instr} (hi : i.wellFormed = true)
    (h : InRow cw i) : decodeControl cw (encodeData i) = i := by
  rcases wellFormed_cases hi with rfl | rfl | ⟨r, rfl⟩ | ⟨r, w, rfl⟩
  · exact decode_reset _ ((inRow_reset cw).1 h)
  · obtain ⟨h5, h4⟩ := (inRow_idle cw).1 h
    exact decode_idle _ h5 h4
  · rw [(inRow_readOf cw r).1 h]
    exact (decodeControl_busWord r _).1
  · rw [(inRow_writeOf cw r w).1 h, encodeData_writeOf]
    exact (decodeControl_busWord r w).2

/-! ### The byte record of an operation -/

/-- Every operation but EVT has a control word, and it lies in the operation's row (R53). -/
theorem encodeControl_of_wellFormed {i : Instr} (h : i.wellFormed = true) :
    ∃ cw, encodeControl i = some cw ∧ InRow cw i := by
  rcases wellFormed_cases h with rfl | rfl | ⟨r, rfl⟩ | ⟨r, w, rfl⟩
  · exact ⟨_, rfl, (inRow_reset _).2 rfl⟩
  · exact ⟨_, rfl, (inRow_idle _).2 ⟨rfl, rfl⟩⟩
  · exact ⟨busWord false r.idx, by cases r <;> rfl, (inRow_readOf _ r).2 rfl⟩
  · exact ⟨busWord true r.idx, by cases r <;> rfl, (inRow_writeOf _ r w).2 rfl⟩

/-- The four bytes of a word, put together again. -/
theorem append_bytes_of_word (w : Word) :
    w.extractLsb' 24 8 ++ w.extractLsb' 16 8 ++ w.extractLsb' 8 8 ++ w.extractLsb' 0 8 = w := by
  rw [BitVec.extractLsb'_append_extractLsb'_eq_extractLsb' (rfl : 24 = 16 + 8),
    BitVec.extractLsb'_append_extractLsb'_eq_extractLsb' (rfl : 16 = 8 + 8),
    BitVec.extractLsb'_append_extractLsb'_eq_extractLsb' (rfl : 8 = 0 + 8)]
  exact BitVec.extractLsb'_eq_self

/-- A control byte holds no more than a control word when it is below 64 (log entry 8). -/
theorem bits67_eq_zero_iff (c : Byte) : c.extractLsb' 6 2 = 0 ↔ c.toNat < 64 := by
  have hc : c.toNat < 256 := c.isLt
  have htop : (c.extractLsb' 6 2).toNat = c.toNat / 64 % 4 := by
    rw [BitVec.extractLsb'_toNat, Nat.shiftRight_eq_div_pow]
  rw [← BitVec.toNat_inj, htop]
  change c.toNat / 64 % 4 = 0 ↔ c.toNat < 64
  omega

theorem decodeBytes_of_lt {c : Byte} (w0 w1 w2 w3 : Byte) (rest : List Byte)
    (h : c.toNat < 64) : decodeBytes (c :: w0 :: w1 :: w2 :: w3 :: rest) =
      .ok (decodeControl (c.extractLsb' 0 6) (w3 ++ w2 ++ w1 ++ w0), rest) :=
  if_pos ((bits67_eq_zero_iff c).2 h)

theorem decodeBytes_of_le {c : Byte} (w0 w1 w2 w3 : Byte) (rest : List Byte)
    (h : 64 ≤ c.toNat) :
    decodeBytes (c :: w0 :: w1 :: w2 :: w3 :: rest) = .error .notAControlWord :=
  if_neg fun h0 => Nat.not_lt.2 h ((bits67_eq_zero_iff c).1 h0)

theorem decodeBytes_of_length_lt {bs : List Byte} (h : bs.length < 5) :
    decodeBytes bs = .error .truncated := by
  unfold decodeBytes
  split
  · simp only [List.length_cons] at h
    omega
  · rfl

/-- A control word in a byte is below 64, and its low six bits are the word. -/
theorem controlByte (cw : ControlWord) :
    (cw.setWidth 8).toNat < 64 ∧ (cw.setWidth 8).extractLsb' 0 6 = cw := by
  constructor
  · rw [BitVec.toNat_setWidth_of_le (by decide)]
    exact cw.isLt
  · rw [← BitVec.setWidth_eq_extractLsb' (by decide),
      BitVec.setWidth_setWidth_of_le _ (by decide), BitVec.setWidth_eq]

/-- The record of an operation decodes as its control word with its data (log entry 8). -/
theorem decodeBytes_encode {i : Instr} {cw : ControlWord} (rest : List Byte)
    (h : encodeControl i = some cw) :
    decodeBytes (encode i ++ rest) = .ok (decodeControl cw (encodeData i), rest) := by
  obtain ⟨hlt, hcw⟩ := controlByte cw
  rw [encode, h]
  refine (decodeBytes_of_lt _ _ _ _ rest hlt).trans ?_
  rw [hcw, append_bytes_of_word]

/-! ### The control inputs of a pending cycle -/

/-- A raw control word is presented with its data, once that has a value (R57). -/
theorem busInputs_control {s : State} {d : Data} {v : Word} (cw : ControlWord)
    (dst : Option HostVar) (e : PinLevel) (h : dataValue s d = some v) :
    busInputs ⟨.control cw d, dst, e⟩ s = .ok ⟨cw, v, e⟩ := by
  simp only [busInputs, h]

theorem busInputs_control_unwritten {s : State} {d : Data} (cw : ControlWord)
    (dst : Option HostVar) (e : PinLevel) (h : dataValue s d = none) :
    busInputs ⟨.control cw d, dst, e⟩ s = .error (.inr .unwrittenHostVariable) := by
  simp only [busInputs, h]

theorem busInputs_store_register_unwritten {s : State} {d : Data} (r : Reg)
    (dst : Option HostVar) (e : PinLevel) (hl : s.params.Legal) (h : dataValue s d = none) :
    busInputs ⟨.store (s.params.baseAddr + 4 * r.idx.toNat) 32 d, dst, e⟩ s =
      .error (.inr .unwrittenHostVariable) := by
  obtain ⟨hstop, -⟩ := accessStop_register r hl
  simp only [busInputs, hstop, h]

/-- A step whose pending cycle names no variable is the cycle that it presents. -/
theorem step_of_busInputs {s : State} {q : Request} {e : PinLevel} {rest : List HostCycle}
    {p : CycleInput} (hs : s.script = ⟨q, none, e⟩ :: rest)
    (h : busInputs ⟨q, none, e⟩ s = .ok p) : step s = runCycle p { s with script := rest } := by
  rw [step_of_pending hs, runPending_of_ok rest h]
  cases runCycle p { s with script := rest } <;> rfl

/-- A step whose pending cycle the model of the host refuses is refused. -/
theorem step_of_refused {s : State} {c : HostCycle} {rest : List HostCycle} {r : Refusal}
    (hs : s.script = c :: rest) (h : busInputs c s = .error (.inr r)) :
    step s = .refused r := by
  rw [step_of_pending hs]
  simp only [runPending, h]

/-! ### The obligations -/

/-- Settles O49: the record holds the operation's control word and its data, and
the control word lies in the operation's row. -/
theorem decodeOfEncodeIsIdentity : Obligations.DecodeOfEncodeIsIdentity := by
  intro i rest hi
  obtain ⟨cw, hcw, hrow⟩ := encodeControl_of_wellFormed hi
  rw [decodeBytes_encode rest hcw, decodeControl_of_inRow hi hrow]

/-- Settles O50. -/
theorem opcodeMapIsTotalAndUnambiguous : Obligations.OpcodeMapIsTotalAndUnambiguous :=
  ⟨fun cw w => ⟨wellFormed_decodeControl cw w, inRow_decodeControl cw w⟩,
    fun _ _ => decodeControl_of_inRow⟩

/-- Settles O51: one word of each don't-care row, with don't-care bits that are not
0, and four bus rows. -/
theorem writtenOutWordsDecode : Obligations.WrittenOutWordsDecode :=
  ⟨decode_reset 0 rfl, decode_idle 0 rfl rfl, decode_rdDrain 0, decode_wrLevel 0x1F4,
    decode_wrEncode 6, decode_rdFrameB 0⟩

/-- Settles O52. -/
theorem decoderRefusesByName : Obligations.DecoderRefusesByName :=
  ⟨fun _ => decodeBytes_of_length_lt, fun _ w0 w1 w2 w3 rest =>
    ⟨decodeBytes_of_le w0 w1 w2 w3 rest,
      fun h => ⟨_, decodeBytes_of_lt w0 w1 w2 w3 rest h⟩⟩⟩

/-- Settles O55: the `wr` and the host store present the same bus word, with the
variable's value as its data. -/
theorem unwrittenVariableIsAnError : Obligations.UnwrittenVariableIsAnError := by
  intro s r x e rest hs
  rcases hs with hs | ⟨hl, hs⟩
  · exact ⟨fun hx => step_of_refused hs (busInputs_control_unwritten _ _ _ (dataValue_var hx)),
      fun v hx => step_of_busInputs hs (busInputs_control _ _ _ (dataValue_var hx))⟩
  · exact ⟨fun hx => step_of_refused hs
        (busInputs_store_register_unwritten r _ _ hl (dataValue_var hx)),
      fun v hx => step_of_busInputs hs (busInputs_store_register r _ _ hl (dataValue_var hx))⟩

/-- Settles O56: each statement emits raw control words with an immediate. -/
theorem statementsPresentTheirOperations : Obligations.StatementsPresentTheirOperations := by
  intro s e n r d v
  have hrst : decodeControl 0b100000 0 = .reset := decode_reset 0 rfl
  have hidle : decodeControl 0b000000 0 = .idle := decode_idle 0 rfl rfl
  obtain ⟨hrd, -⟩ := decodeControl_busWord r 0
  obtain ⟨-, hwr⟩ := decodeControl_busWord r v
  exact ⟨⟨cycleRst e, _, rfl, busInputs_control _ _ _ rfl, rfl, hrst, rfl⟩,
    ⟨cycleIdle e, _, rfl, busInputs_control _ _ _ rfl, rfl, hidle, rfl⟩,
    ⟨cycleRd r d e, _, rfl, busInputs_control _ _ _ rfl, rfl, hrd, rfl⟩,
    ⟨cycleWr r (.imm v) e, _, rfl, busInputs_control _ _ _ rfl, rfl, hwr, rfl⟩⟩

/-- Settles O57: both sides of each expansion are the same list of cycles. -/
theorem pseudoInstructionsExpand : Obligations.PseudoInstructionsExpand := by
  intro e lvl v n t ts ta tb
  exact ⟨rfl, rfl, rfl, rfl, rfl, rfl, rfl, rfl⟩

end Sys2Proof.Machine

/-! PROOFS. The event accumulator: the event path beside every operation, the
synchronizer and PREV as one delay line, what a run counts and returns, and the
cycle as the simultaneous step over the ports (R52, R60 to R66, R71, R140). -/

namespace Sys2Proof.Machine

/-! ### The event path -/

/-- COUNT after an edge without a drain, as R61 writes it. -/
theorem eventIncrement_eventCounted (s : State) : EventCounted s (eventIncrement s) := by
  rw [EventCounted, eventIncrement_count, eventDue_eq_incBit]
  cases incBit s with
  | false => simp
  | true => simp [satinc]

/-- Beside every operation that is neither reset, EVT nor a drain the event path
runs, and nothing outside the block changes (R61). -/
theorem exec_eventPath {i : Instr} {s t : State} (h : exec i s = .next t)
    (hr : i ≠ .reset) (he : i ≠ .evt) (hd : i ≠ .rdDrain) : EventPath s t ∧ SameOutside s t := by
  rw [exec_eq_finishCycle h hr he hd]
  obtain ⟨hcount, hsync, hprev⟩ := finishCycle_busPath s hr
  obtain ⟨-, hout⟩ := busPath_frame s hr
  exact ⟨⟨⟨hsync, hprev⟩, hcount.trans (eventIncrement_eventCounted s)⟩, hout⟩

/-! ### The delay line -/

/-- Stage `i` of the delay line that SYNC and PREV form together: PREV stands
behind the last synchronizer stage (R60). -/
def delayStage (s : State) (i : Nat) : Bool :=
  if i < s.params.syncStages then s.sync.getD i false else s.prev

/-- The EVT condition compares the last two stages of the delay line (R63). -/
theorem incBit_eq_delayStage {s : State} {n : Nat} (h : n + 1 = s.params.syncStages) :
    incBit s = (delayStage s n && !delayStage s (n + 1)) := by
  simp [incBit, delayStage, ← h]

/-- A non-reset cycle puts its sample into stage 0 of the delay line (R60). -/
theorem runCycle_delayStage_zero {p : CycleInput} {s t : State} (h : runCycle p s = .next t)
    (hr : isResetCycle p = false) (hn : 0 < s.params.syncStages) :
    delayStage t 0 = sampleOf p.evt (s.cycle + 1) := by
  obtain ⟨hp, -⟩ := runCycle_outside h
  obtain ⟨hsync, -⟩ := runCycle_sampled h hr
  rw [delayStage, hp, if_pos hn, hsync, shiftIn_zero _ _ hn]

/-- A non-reset cycle moves the delay line on by one stage (R60). -/
theorem runCycle_delayStage_succ {p : CycleInput} {s t : State} {i : Nat}
    (h : runCycle p s = .next t) (hr : isResetCycle p = false) (hi : i < s.params.syncStages) :
    delayStage t (i + 1) = delayStage s i := by
  obtain ⟨hp, -⟩ := runCycle_outside h
  obtain ⟨hsync, hprev⟩ := runCycle_sampled h hr
  rw [delayStage, delayStage, hp, if_pos hi]
  split
  case isTrue hlt => rw [hsync, shiftIn_succ _ _ hlt]
  case isFalse hge =>
    have hlast : s.params.syncStages - 1 = i := by omega
    rw [hprev, lastStage, hlast]

/-! ### Runs -/

theorem exists_runCycle (p : CycleInput) (s : State) : ∃ t, runCycle p s = .next t :=
  everyOperationHasASuccessor _ _

section
variable {p : CycleInput} {s t : State}

theorem runInputs_cons (ps : List CycleInput) (h : runCycle p s = .next t) :
    runInputs (p :: ps) s = runInputs ps t := by
  simp only [runInputs, h]

theorem returned_cons (ps : List CycleInput) (h : runCycle p s = .next t) :
    returned (p :: ps) s = (if isDrainCycle p then t.rdata.toNat else 0) + returned ps t := by
  simp only [returned, h]

theorem increments_cons (ps : List CycleInput) (h : runCycle p s = .next t) :
    increments (p :: ps) s = (if incBit s then 1 else 0) + increments ps t := by
  simp only [increments, h]

end

/-- A run that answers a next state has run its first cycle, and then the others. -/
theorem runInputs_cons_eq_next {p : CycleInput} {ps : List CycleInput} {s t : State}
    (h : runInputs (p :: ps) s = .next t) :
    ∃ u, runCycle p s = .next u ∧ runInputs ps u = .next t := by
  obtain ⟨u, hu⟩ := exists_runCycle p s
  exact ⟨u, hu, (runInputs_cons ps hu).symm.trans h⟩

theorem runInputs_params {ps : List CycleInput} {s t : State} (h : runInputs ps s = .next t) :
    t.params = s.params := by
  induction ps generalizing s with
  | nil => cases h; rfl
  | cons p ps ih =>
    obtain ⟨u, hu, hrun⟩ := runInputs_cons_eq_next h
    obtain ⟨hparams, -⟩ := runCycle_outside hu
    exact (ih hrun).trans hparams

/-- A run can be cut where its first part ends. -/
theorem run_append {ps : List CycleInput} {s u : State} (qs : List CycleInput)
    (h : runInputs ps s = .next u) :
    runInputs (ps ++ qs) s = runInputs qs u ∧
      increments (ps ++ qs) s = increments ps s + increments qs u := by
  induction ps generalizing s with
  | nil => cases h; simp [increments]
  | cons p ps ih =>
    obtain ⟨t, ht, hrest⟩ := runInputs_cons_eq_next h
    obtain ⟨hrun, hinc⟩ := ih hrest
    rw [List.cons_append, runInputs_cons _ ht, increments_cons _ ht, increments_cons _ ht]
    exact ⟨hrun, by rw [hinc, Nat.add_assoc]⟩

/-- A run of non-reset cycles moves the delay line on by its length (R60). -/
theorem runInputs_delayStage {ps : List CycleInput} {s t : State} {i : Nat}
    (hr : ∀ r ∈ ps, isResetCycle r = false) (h : runInputs ps s = .next t)
    (hi : i + ps.length ≤ s.params.syncStages) :
    delayStage t (i + ps.length) = delayStage s i := by
  induction ps generalizing s i with
  | nil => cases h; rfl
  | cons p ps ih =>
    obtain ⟨hp, hps⟩ := List.forall_mem_cons.1 hr
    rw [List.length_cons] at hi
    obtain ⟨u, hu, hrun⟩ := runInputs_cons_eq_next h
    obtain ⟨hparams, -⟩ := runCycle_outside hu
    have hrest := ih (i := i + 1) hps hrun (by rw [hparams]; omega)
    rw [← runCycle_delayStage_succ hu hp (by omega), ← hrest, List.length_cons]
    congr 1
    omega

/-- In a non-reset cycle that does not saturate COUNT, what a drain returns and
what is left in COUNT are what COUNT held and the increment of the edge (R66). -/
theorem runCycle_conserves {p : CycleInput} {s t : State} (ht : runCycle p s = .next t)
    (hi : AccumulatorInv s) (hr : isResetCycle p = false)
    (hsat : incBit s = true → isDrainCycle p = false →
      s.count.toNat < 2 ^ s.params.countW - 1) :
    (if isDrainCycle p then t.rdata.toNat else 0) + t.count.toNat =
      s.count.toNat + if incBit s then 1 else 0 := by
  cases hd : isDrainCycle p with
  | true =>
    obtain ⟨hrdata, hcount⟩ := runCycle_drain ht hd
    rw [if_pos rfl, hrdata, hcount, eventDue_eq_incBit]
    cases incBit s <;> rfl
  | false =>
    have hone : NeverSaturates [p] s := neverSaturates_cons ht hsat (neverSaturates_nil t)
    rw [if_neg nofun, runCycle_counted_toNat ht hi hone hr hd, Nat.zero_add]

/-- A run of cycles that are neither reset nor drain, in which COUNT cannot
saturate, adds its increments to COUNT (R66). -/
theorem runInputs_counts {ps : List CycleInput} {s : State} (hi : AccumulatorInv s)
    (hps : ∀ p ∈ ps, isResetCycle p = false ∧ isDrainCycle p = false)
    (hsat : s.count.toNat + increments ps s < 2 ^ s.params.countW) :
    ∃ u, runInputs ps s = .next u ∧ u.count.toNat = s.count.toNat + increments ps s := by
  induction ps generalizing s with
  | nil => exact ⟨s, rfl, rfl⟩
  | cons p ps ih =>
    obtain ⟨⟨hr, hd⟩, hrest⟩ := List.forall_mem_cons.1 hps
    obtain ⟨t, ht⟩ := exists_runCycle p s
    obtain ⟨hparams, -⟩ := runCycle_outside ht
    rw [increments_cons ps ht] at hsat ⊢
    have hcount := runCycle_conserves ht hi hr fun hinc _ => by
      rw [if_pos hinc] at hsat
      omega
    rw [hd, if_neg nofun, Nat.zero_add] at hcount
    obtain ⟨u, hu, hucount⟩ := ih (runCycle_accumulatorInv ht hi) hrest (by rw [hparams]; omega)
    exact ⟨u, (runInputs_cons ps ht).trans hu, by omega⟩

/-! ### The cycle over the ports -/

/-- Two states are the same if they agree on the accumulator, on the encoder, on
`rdata`, and outside the block. -/
theorem State.eq_of_same {s t : State} (ha : SameAccumulator s t) (he : SameEncoder s t)
    (hrdata : t.rdata = s.rdata) (ho : SameOutside s t) : t = s := by
  obtain ⟨hcount, hsync, hprev⟩ := ha
  obtain ⟨⟨hsat, hlevel, htips⟩, hn, hc, hv, hA, hB⟩ := he
  obtain ⟨hparams, hevt, hcycle, hscript, hvars⟩ := ho
  cases s
  cases t
  simp_all

/-- The simultaneous step on the ports as a cycle's inputs drive them (R51, R60, R61). -/
def portCycle (p : CycleInput) (s : State) : State :=
  portStep (beginCycle p s) (p.control.getLsbD 5) (p.control.getLsbD 4) (p.control.getLsbD 3)
    (p.control.extractLsb' 0 3).toNat p.wdata (sampleOf p.evt (s.cycle + 1))

/-- With `rst = 1` the simultaneous step is reset (R140). -/
theorem portStep_reset (s : State) (sel we : Bool) (idx : Nat) (w : Word) (samp : Bool) :
    portStep s true sel we idx w samp = resetElements s := by
  have hsync : (portStep s true sel we idx w samp).sync = (resetElements s).sync :=
    List.map_const'.trans (congrArg (List.replicate · false) List.length_range)
  exact State.eq_of_same ⟨rfl, hsync, rfl⟩ ⟨⟨rfl, rfl, rfl⟩, rfl, rfl, rfl, rfl, rfl⟩ rfl
    ⟨rfl, rfl, rfl, rfl, rfl⟩

/-- The synchronizer stage by stage is the synchronizer shifted (R60). -/
theorem map_range_eq_shiftIn (samp : Bool) (sync : List Bool) :
    ((List.range sync.length).map fun i => if i = 0 then samp else sync.getD (i - 1) false) =
      shiftIn sync.length samp sync := by
  apply List.ext_getElem
  · simp
  · intro i hi _
    cases i with
    | zero => simp [shiftIn]
    | succ i =>
      have hlt : i < sync.length := by simp at hi; omega
      simp [shiftIn, hlt]

/-- A drain is a cycle that selects register 1 for a read (R20, R51). -/
theorem isDrainCycle_eq {p : CycleInput} (hr : isResetCycle p = false) :
    isDrainCycle p = (p.control.getLsbD 4 && !p.control.getLsbD 3 &&
      (p.control.extractLsb' 0 3).toNat == 1) := by
  have hwords : ∀ cw : ControlWord, cw.getLsbD 5 = false → (cw == 0b010001) =
      (cw.getLsbD 4 && !cw.getLsbD 3 && (cw.extractLsb' 0 3).toNat == 1) := by decide
  exact hwords p.control hr

/-- COUNT, SYNC and PREV after a non-reset cycle are those of the simultaneous step (R61). -/
theorem runCycle_sameAccumulator_portCycle {p : CycleInput} {s t : State}
    (ht : runCycle p s = .next t) (hr : isResetCycle p = false)
    (hs : s.sync.length = s.params.syncStages) : SameAccumulator t (portCycle p s) := by
  obtain ⟨hsync, hprev⟩ := runCycle_sampled ht hr
  have h5 : p.control.getLsbD 5 = false := hr
  rw [portCycle, h5]
  refine ⟨?_, ?_, hprev.symm⟩
  · simp only [portStep, ← isDrainCycle_eq hr]
    cases hd : isDrainCycle p with
    | true => exact (runCycle_drain ht hd).2.symm
    | false =>
      rw [runCycle_counted ht hr hd, eventIncrement_eventCounted s]
      simp [incBit]
  · rw [hsync, ← hs, ← map_range_eq_shiftIn, hs]
    rfl

/-- A read returns its row of the table of R52. -/
theorem portRead_eq_toNat (r : Reg) (s : State) :
    portRead s r.idx.toNat = (busPath (readOf r) s).rdata.toNat := by
  cases r
  case ctrl => exact (ctrlWord_toNat s).symm
  case status => exact (statusWord_toNat s).symm
  case frameB => exact (frameBWord_toNat s).symm
  all_goals rfl

section
variable (s : State) (w : Word) (samp : Bool)

/-- Without a bus access the simultaneous step leaves the encoder alone (R62). -/
theorem portStep_idle (we : Bool) (idx : Nat) :
    SameEncoder s (portStep s false false we idx w samp) ∧
      (portStep s false false we idx w samp).rdata = 0 :=
  ⟨⟨⟨rfl, rfl, rfl⟩, rfl, rfl, rfl, rfl, rfl⟩, rfl⟩

/-- In a read the simultaneous step has the bus path of that read (R52, R61). -/
theorem portStep_read (r : Reg) :
    SameEncoder (busPath (readOf r) s) (portStep s false true false r.idx.toNat w samp) ∧
      (portStep s false true false r.idx.toNat w samp).rdata = (busPath (readOf r) s).rdata := by
  constructor
  · cases r <;> exact ⟨⟨rfl, rfl, rfl⟩, rfl, rfl, rfl, rfl, rfl⟩
  · have hread : (portStep s false true false r.idx.toNat w samp).rdata =
        BitVec.ofNat 32 (portRead s r.idx.toNat) := rfl
    rw [hread, portRead_eq_toNat, BitVec.ofNat_toNat, BitVec.setWidth_eq]

/-- In a write the simultaneous step has the write effect of the register: for ENCODE
one of the two of R110, for the others that of R105, R107, R109 or none. -/
theorem portStep_write (r : Reg) :
    SameEncoder (busPath (writeOf r w) s) (portStep s false true true r.idx.toNat w samp) ∧
      (portStep s false true true r.idx.toNat w samp).rdata = (busPath (writeOf r w) s).rdata := by
  cases r
  case encode =>
    have hbus : busPath (writeOf .encode w) s = writeEncode w (driveRdata 0 s) := rfl
    rw [hbus]
    rcases Nat.lt_or_ge w.toNat 6 with hw | hw
    · rw [writeEncode_of_lt _ hw]
      simp [SameEncoder, SameOperands, SameResult, portStep, Reg.idx, hw]
    · rw [writeEncode_of_le _ hw]
      simp [SameEncoder, SameOperands, SameResult, portStep, Reg.idx, hw]
  all_goals exact ⟨⟨⟨rfl, rfl, rfl⟩, rfl, rfl, rfl, rfl, rfl⟩, rfl⟩

end

/-- The simultaneous step leaves the encoder and `rdata` as the bus path of the
decoded operation does (R56, R61). -/
theorem busPath_portCycle {p : CycleInput} (s : State) (hr : isResetCycle p = false) :
    SameEncoder (busPath (decodeControl p.control p.wdata) (beginCycle p s)) (portCycle p s) ∧
      (portCycle p s).rdata =
        (busPath (decodeControl p.control p.wdata) (beginCycle p s)).rdata := by
  have h5 : p.control.getLsbD 5 = false := hr
  rw [portCycle, h5]
  cases h4 : p.control.getLsbD 4 with
  | false =>
    rw [decode_idle p.wdata h5 h4]
    exact portStep_idle _ _ _ _ _
  | true =>
    rw [← idx_regOfIdx (p.control.extractLsb' 0 3)]
    cases h3 : p.control.getLsbD 3 with
    | false =>
      rw [decode_read p.wdata h5 h4 h3]
      exact portStep_read _ _ _ _
    | true =>
      rw [decode_write p.wdata h5 h4 h3]
      exact portStep_write _ _ _ _

theorem SameEncoder.symm {s t : State} (h : SameEncoder s t) : SameEncoder t s := by
  obtain ⟨⟨hsat, hlevel, htips⟩, hn, hc, hv, hA, hB⟩ := h
  exact ⟨⟨hsat.symm, hlevel.symm, htips.symm⟩, hn.symm, hc.symm, hv.symm, hA.symm, hB.symm⟩

/-- The event path of an edge does not write `rdata` (R61). -/
theorem exec_rdata_busPath {i : Instr} {s t : State} (h : exec i s = .next t) :
    t.rdata = (busPath i s).rdata := by
  rcases exec_cases h with ⟨rfl, rfl⟩ | ⟨rfl, rfl⟩ | ⟨rfl, rfl⟩ | ⟨-, -, -, rfl⟩ <;> rfl

/-- A non-reset cycle is the simultaneous step of R61. -/
theorem runCycle_eq_portCycle {p : CycleInput} {s t : State} (ht : runCycle p s = .next t)
    (hr : isResetCycle p = false) (hs : s.sync.length = s.params.syncStages) :
    portCycle p s = t := by
  obtain ⟨henc, hrdata⟩ := busPath_portCycle s hr
  obtain ⟨hp, hc, he, hscript, hvars⟩ := runCycle_outside ht
  exact State.eq_of_same (runCycle_sameAccumulator_portCycle ht hr hs)
    ((exec_sameEncoder_busPath ht).symm.trans henc) (hrdata.trans (exec_rdata_busPath ht).symm)
    ⟨hp.symm, he.symm, hc.symm, hscript.symm, hvars.symm⟩

/-! ### The obligations -/

/-- Settles O3: a cycle with `rst = 1` is the reset of R140, every other one is the
simultaneous step of R61, element by element. -/
theorem cycleIsTheSimultaneousStep : Obligations.CycleIsTheSimultaneousStep := by
  rintro p s ⟨⟨-, -, hs⟩, -⟩
  obtain ⟨t, ht⟩ := exists_runCycle p s
  have heq : portCycle p s = t := by
    cases hr : isResetCycle p with
    | true =>
      have h5 : p.control.getLsbD 5 = true := hr
      rw [runCycle_reset ht hr, portCycle, h5, portStep_reset]
    | false => exact runCycle_eq_portCycle ht hr hs
  rw [ht, ← heq]
  rfl

/-- Settles O11. -/
theorem eventIncrementSaturates : Obligations.EventIncrementSaturates := by
  rintro s ⟨hl, hc, -⟩
  refine ⟨eventIncrement s, rfl, ?_, rfl, rfl, rfl, ⟨⟨rfl, rfl, rfl⟩, rfl, rfl, rfl, rfl, rfl⟩,
    rfl, rfl, rfl, rfl, rfl⟩
  have hdue : eventDue s = true ↔
      s.sync.getD (s.params.syncStages - 1) false = true ∧ s.prev = false := by
    simp [eventDue, lastStage]
  rw [eventIncrement_count, ← satinc_toNat hl.2.1 hc, apply_ite BitVec.toNat]
  simp only [hdue]

/-- Settles O14: EVT increments COUNT as every cycle without a drain does. -/
theorem eventLandsBesideEveryOperation : Obligations.EventLandsBesideEveryOperation := by
  intro i s t u hr hd h hu
  cases hu
  rcases exec_cases h with ⟨hi, -⟩ | ⟨-, rfl⟩ | ⟨hi, -⟩ | ⟨-, -, -, rfl⟩
  · exact absurd hi hr
  · rfl
  · exact absurd hi hd
  · exact (finishCycle_busPath s hr).1

/-- Settles O15. -/
theorem samplingIgnoresTheBus : Obligations.SamplingIgnoresTheBus := by
  intro p q s t u hp hq hevt ht hu
  obtain ⟨htsync, htprev⟩ := runCycle_sampled ht hp
  obtain ⟨husync, huprev⟩ := runCycle_sampled hu hq
  exact ⟨by rw [htsync, husync, hevt], htprev.trans huprev.symm⟩

/-- Settles O17: the first two samples stand in the last two stages of the delay
line after the run, the later one in front. -/
theorem risingEdgeIsDueAfterSyncStages : Obligations.RisingEdgeIsDueAfterSyncStages := by
  intro p q ps s t hi hlen hr h
  obtain ⟨hp, hq, hps⟩ : isResetCycle p = false ∧ isResetCycle q = false ∧
      ∀ r ∈ ps, isResetCycle r = false := by simpa using hr
  obtain ⟨a, ha, hrun⟩ := runInputs_cons_eq_next h
  obtain ⟨b, hb, hrest⟩ := runInputs_cons_eq_next hrun
  obtain ⟨hap, hac, -⟩ := runCycle_outside ha
  obtain ⟨hbp, -⟩ := runCycle_outside hb
  have htp : t.params = s.params := runInputs_params h
  have hsecond : delayStage t ps.length = sampleOf q.evt (s.cycle + 2) := by
    have hmove := runInputs_delayStage (i := 0) hps hrest (by rw [hbp, hap]; omega)
    rw [Nat.zero_add] at hmove
    rw [hmove, runCycle_delayStage_zero hb hq (by rw [hap]; omega), hac]
  have hfirst : delayStage t (ps.length + 1) = sampleOf p.evt (s.cycle + 1) := by
    have hmove := runInputs_delayStage (i := 1) hps hrest (by rw [hbp, hap]; omega)
    rw [Nat.add_comm] at hmove
    rw [hmove, runCycle_delayStage_succ hb hq (by rw [hap]; omega),
      runCycle_delayStage_zero ha hp (by omega)]
  rw [incBit_eq_delayStage (hlen.trans (by rw [htp])), hsecond, hfirst]
  simp [and_comm]

/-- Settles O19: the sum is kept by every cycle of the run. -/
theorem eventsAreConserved : Obligations.EventsAreConserved := by
  intro ps
  induction ps with
  | nil => intro s _ _ _; exact ⟨s, rfl, Nat.add_comm _ _⟩
  | cons p ps ih =>
    intro s hi hr hn
    obtain ⟨hp, hps⟩ := List.forall_mem_cons.1 hr
    obtain ⟨u, hu⟩ := exists_runCycle p s
    have hcycle := runCycle_conserves hu hi hp hn.head
    obtain ⟨t, ht, hrest⟩ := ih u (runCycle_accumulatorInv hu hi) hps (hn.tail hu)
    refine ⟨t, (runInputs_cons ps hu).trans ht, ?_⟩
    rw [returned_cons ps hu, increments_cons ps hu]
    omega

/-- Settles O20: the run before the drain leaves its increments in COUNT, and the
drain returns them. -/
theorem drainReturnsIncrementsBeforeIt : Obligations.DrainReturnsIncrementsBeforeIt := by
  intro ps d s hi hps hd hsat
  obtain ⟨u, hu, hcount⟩ := runInputs_counts hi hps hsat
  obtain ⟨hrun, hinc⟩ := run_append [d] hu
  obtain ⟨t, ht⟩ := exists_runCycle d u
  obtain ⟨hrdata, htcount⟩ := runCycle_drain ht hd
  refine ⟨t, hrun.trans (runInputs_cons [] ht), by rw [hrdata, hcount], ?_⟩
  rw [hinc, increments_cons [] ht, htcount, eventDue_eq_incBit]
  cases incBit u <;> simp [increments, Nat.add_comm]

/-- Settles O10: the bus path of an idle cycle writes `rdata` alone. -/
theorem idleRunsTheEventPath : Obligations.IdleRunsTheEventPath := by
  intro s
  have h : exec .idle s = .next (finishCycle (busPath .idle s)) := rfl
  obtain ⟨hpath, hout⟩ := exec_eventPath h nofun nofun nofun
  exact ⟨_, h, rfl, hpath, exec_sameEncoder_busPath h, hout⟩

/-- Settles O12: the drain is the bus path of a read, then the edge that clears COUNT. -/
theorem drainReturnsAndClearsCount : Obligations.DrainReturnsAndClearsCount := by
  intro s
  exact ⟨finishDrain (driveRdata (drainWord s) s), rfl, rfl, rfl, fun ⟨_, hc, _⟩ => hc,
    ⟨rfl, rfl⟩, ⟨⟨rfl, rfl, rfl⟩, rfl, rfl, rfl, rfl, rfl⟩, rfl, rfl, rfl, rfl, rfl⟩

/-- Settles O13: a write to DRAIN has the bus path of an idle cycle. -/
theorem writeDrainIsAnIdleCycle : Obligations.WriteDrainIsAnIdleCycle :=
  fun _ s => ⟨rfl, idleRunsTheEventPath s⟩

end Sys2Proof.Machine

/-! PROOFS. The frame encoder: the two fields and their checksum, and what each
operation on the encoder's registers answers (R27, R29, R52, R100 to R117). -/

namespace Sys2Proof.Machine

/-! ### The level and tips fields -/

/-- The wrap policy keeps the low 16 bits, sign or no sign (R100). -/
theorem level16_wrap (l : Word) : level16 false l = BitVec.ofInt 16 l.toInt := by
  have hsign : l.signExtend 16 = l.setWidth 16 :=
    BitVec.signExtend_eq_setWidth_of_le l (by decide)
  have hwidth : l.setWidth 16 = l.extractLsb' 0 16 := BitVec.setWidth_eq_extractLsb' (by decide)
  exact (hsign.trans hwidth).symm

theorem level16_saturate (l : Word) :
    level16 true l = BitVec.ofInt 16 (max (-32768) (min 32767 l.toInt)) := rfl

theorem toNat_low_half (v : Word) : (v.extractLsb' 0 16).toNat = v.toNat % 65536 :=
  BitVec.extractLsb'_toNat 0 16 v

theorem toNat_bytes_of_half (v : Half) :
    256 * (highByte v).toNat + (lowByte v).toNat = v.toNat := by
  have happ := congrArg BitVec.toNat (highByte_append_lowByte v)
  rw [BitVec.toNat_append, ← Nat.shiftLeft_add_eq_or_of_lt (lowByte v).isLt,
    Nat.shiftLeft_eq] at happ
  omega

/-! ### The checksum -/

/-- One byte of the CRC is the shift of R102, eight times. -/
theorem crcByte_eq_iterate (c : Half) (b : Byte) :
    crcByte c b = crcShift^[8] (c ^^^ (b ++ (0 : Byte))) := rfl

theorem crc16_append (bs cs : List Byte) : crc16 (bs ++ cs) = cs.foldl crcByte (crc16 bs) :=
  List.foldl_append

/-- While no bit that is 1 is shifted out, the polynomial does not enter (R102). -/
theorem crcShift_iterate_of_lt {c : Half} {k : Nat} (hk : k ≤ 16)
    (h : c.toNat < 2 ^ (16 - k)) : crcShift^[k] c = c <<< k := by
  induction k with
  | zero => simp
  | succ k ih =>
    have hpow : 2 ^ (16 - (k + 1)) ≤ 2 ^ (16 - k) := Nat.pow_le_pow_right (by decide) (by omega)
    have hindex : 15 - k = 16 - (k + 1) := by omega
    have htop : (c <<< k).getLsbD 15 = false := by
      rw [BitVec.getLsbD_shiftLeft, hindex, BitVec.getLsbD, Nat.testBit_lt_two_pow h,
        Bool.and_false]
    rw [Function.iterate_succ_apply', ih (by omega) (h.trans_le hpow), crcShift, htop,
      if_neg nofun, BitVec.shiftLeft_add]

/-- The high byte of the CRC itself leaves the low byte of it in the high half. -/
theorem crcByte_highByte (c : Half) : crcByte c (highByte c) = lowByte c ++ (0 : Byte) := by
  have hxor : c ^^^ (highByte c ++ (0 : Byte)) = (0 : Byte) ++ lowByte c := calc
    c ^^^ (highByte c ++ (0 : Byte)) =
        (highByte c ++ lowByte c) ^^^ (highByte c ++ (0 : Byte)) := by
      rw [highByte_append_lowByte]
    _ = (highByte c ^^^ highByte c) ++ (lowByte c ^^^ (0 : Byte)) := BitVec.xor_append
    _ = (0 : Byte) ++ lowByte c := congrArg₂ (· ++ ·) BitVec.xor_self BitVec.xor_zero
  have hlt : ((0 : Byte) ++ lowByte c).toNat < 2 ^ (16 - 8) := by
    rw [BitVec.toNat_append]
    simpa using (lowByte c).isLt
  rw [crcByte_eq_iterate, hxor, crcShift_iterate_of_lt (by decide) hlt,
    BitVec.shiftLeft_eq_concat_of_lt (by decide)]
  exact congrArg (· ++ (0 : Byte)) BitVec.extractLsb'_append_eq_right

/-- The CRC run over its own two bytes, high byte first, comes to 0. -/
theorem crcByte_own_bytes (c : Half) : crcByte (crcByte c (highByte c)) (lowByte c) = 0 := by
  rw [crcByte_highByte, crcByte_eq_iterate, BitVec.xor_self]
  rfl

/-! ### The words that reads return -/

theorem frameBWord_fields (s : State) :
    (frameBWord s).extractLsb' 0 16 = s.frameB ∧ (frameBWord s).extractLsb' 16 16 = 0 := by
  have hword : frameBWord s = (0 : Half) ++ s.frameB := BitVec.setWidth_eq_append (by decide)
  rw [hword]
  exact ⟨BitVec.extractLsb'_append_eq_right, BitVec.extractLsb'_append_eq_left⟩

/-- STATUS after a success (R110, R112). -/
theorem statusWord_reportEncoded (f : Frame) (s : State) :
    statusWord (reportEncoded f s) = 0x206 := by
  have hword : statusWord (reportEncoded f s) =
      (0 : BitVec 22) ++ BitVec.ofBool true ++ BitVec.ofBool false ++ (6 : Byte) := rfl
  rw [hword]
  rfl

/-- STATUS after a capacity error (R110, R112). -/
theorem statusWord_reportCapacityError (s : State) :
    statusWord (reportCapacityError s) = if s.frameValid then 0x300 else 0x100 := by
  have hword : statusWord (reportCapacityError s) =
      (0 : BitVec 22) ++ BitVec.ofBool s.frameValid ++ BitVec.ofBool true ++ (0 : Byte) := rfl
  rw [hword]
  cases s.frameValid <;> rfl

theorem statusWord_writeEncode (w : Word) (s : State) : statusWord (writeEncode w s) =
    if 6 ≤ w.toNat then 0x206 else if s.frameValid then 0x300 else 0x100 := by
  split
  case isTrue hw => rw [writeEncode_of_le s hw, statusWord_reportEncoded]
  case isFalse hw => rw [writeEncode_of_lt s (Nat.not_le.1 hw), statusWord_reportCapacityError]

/-! ### What an operation answers -/

/-- Every operation but reset, EVT and a drain answers what its bus path leaves in
the encoder and on `rdata`, and runs the event path (R61). -/
theorem exec_answers_busPath {i : Instr} (s : State) (hr : i ≠ .reset) (he : i ≠ .evt)
    (hd : i ≠ .rdDrain) :
    ∃ t, exec i s = .next t ∧ t.rdata = (busPath i s).rdata ∧ EventPath s t ∧
      SameEncoder (busPath i s) t ∧ SameOutside s t := by
  obtain ⟨t, ht⟩ := everyOperationHasASuccessor i s
  obtain ⟨hpath, hout⟩ := exec_eventPath ht hr he hd
  exact ⟨t, ht, exec_rdata_busPath ht, hpath, exec_sameEncoder_busPath ht, hout⟩

/-! ### What the encoder reads -/

/-- An encode reads nothing but its capacity and the encoder's own registers (R110). -/
theorem SameEncoder.writeEncode_congr {s t : State} (w : Word) (h : SameEncoder s t) :
    SameEncoder (writeEncode w s) (writeEncode w t) := by
  obtain ⟨⟨hsat, hlevel, htips⟩, -, -, hv, ha, hb⟩ := id h
  rcases Nat.lt_or_ge w.toNat 6 with hw | hw
  · rw [writeEncode_of_lt s hw, writeEncode_of_lt t hw]
    exact ⟨⟨hsat, hlevel, htips⟩, rfl, rfl, hv, ha, hb⟩
  · rw [writeEncode_of_le s hw, writeEncode_of_le t hw, hsat, hlevel, htips]
    exact ⟨⟨hsat, hlevel, htips⟩, rfl, rfl, rfl, rfl, rfl⟩

/-- The bus path writes the encoder's registers from the operation's data and from
the encoder's registers alone (R61). -/
theorem SameEncoder.busPath_congr {s t : State} (i : Instr) (h : SameEncoder s t) :
    SameEncoder (busPath i s) (busPath i t) := by
  obtain ⟨⟨hsat, hlevel, htips⟩, hresult⟩ := id h
  cases i
  case reset => exact ⟨⟨rfl, rfl, rfl⟩, rfl, rfl, rfl, rfl, rfl⟩
  case wrCtrl w => exact ⟨⟨rfl, hlevel, htips⟩, hresult⟩
  case wrLevel w => exact ⟨⟨hsat, rfl, htips⟩, hresult⟩
  case wrTips w => exact ⟨⟨hsat, hlevel, rfl⟩, hresult⟩
  case wrEncode w =>
    have hport : SameEncoder (driveRdata 0 s) (driveRdata 0 t) := h
    exact hport.writeEncode_congr w
  all_goals exact h

/-! ### The obligations -/

/-- Settles O29: both policies are `BitVec.ofInt` of a number, which the saturate
policy has clamped first. -/
theorem levelFieldWrapsOrSaturates : Obligations.LevelFieldWrapsOrSaturates := by
  refine ⟨toNat_low_half, fun l => ?_, fun l hlo hhi => ?_⟩
  · rw [level16_saturate]
    exact BitVec.toInt_ofInt_eq_self (by decide) (by omega) (by omega)
  · rw [level16_saturate, level16_wrap, min_eq_right hhi, max_eq_right hlo]

/-- Settles O34: the first four bytes leave the checksum, and the checksum's own two
bytes take it to 0. -/
theorem checksumOverTheFrameIsZero : Obligations.ChecksumOverTheFrameIsZero := by
  intro sat l n
  exact crcByte_own_bytes (fieldCrc (level16 sat l) (tips16 n))

/-- Settles O46: the bus path reads no more of a state than the encoder, and the
event path of the same edge does not write the encoder. -/
theorem encoderIgnoresTheAccumulator : Obligations.EncoderIgnoresTheAccumulator := by
  intro i s t s' t' h hs ht
  exact (exec_sameEncoder_busPath hs).symm.trans
    ((h.busPath_congr i).trans (exec_sameEncoder_busPath ht))

/-- Settles O21. -/
theorem readCtrlReturnsPolicy : Obligations.ReadCtrlReturnsPolicy := by
  intro s
  obtain ⟨t, ht, hrdata, hrest⟩ := exec_answers_busPath (i := .rdCtrl) s nofun nofun nofun
  exact ⟨t, ht, hrdata.trans (ctrlWord_eq_ite s), hrest⟩

/-- Settles O22. -/
theorem writeCtrlSetsPolicy : Obligations.WriteCtrlSetsPolicy := by
  intro w s
  obtain ⟨t, ht, hrdata, hpath, ⟨⟨hsat, hlevel, htips⟩, hresult⟩, hout⟩ :=
    exec_answers_busPath (i := .wrCtrl w) s nofun nofun nofun
  exact ⟨t, ht, hsat, hlevel, htips, hrdata, hresult, hpath, hout⟩

/-- Settles O23. -/
theorem readLevelReturnsLevel : Obligations.ReadLevelReturnsLevel :=
  fun s => exec_answers_busPath (i := .rdLevel) s nofun nofun nofun

/-- Settles O24. -/
theorem writeLevelStoresLevel : Obligations.WriteLevelStoresLevel := by
  intro w s
  obtain ⟨t, ht, hrdata, hpath, ⟨⟨hsat, hlevel, htips⟩, hresult⟩, hout⟩ :=
    exec_answers_busPath (i := .wrLevel w) s nofun nofun nofun
  exact ⟨t, ht, hlevel, hsat, htips, hrdata, hresult, hpath, hout⟩

/-- Settles O25. -/
theorem readTipsReturnsTips : Obligations.ReadTipsReturnsTips :=
  fun s => exec_answers_busPath (i := .rdTips) s nofun nofun nofun

/-- Settles O26. -/
theorem writeTipsStoresTips : Obligations.WriteTipsStoresTips := by
  intro w s
  obtain ⟨t, ht, hrdata, hpath, ⟨⟨hsat, hlevel, htips⟩, hresult⟩, hout⟩ :=
    exec_answers_busPath (i := .wrTips w) s nofun nofun nofun
  exact ⟨t, ht, htips, hsat, hlevel, hrdata, hresult, hpath, hout⟩

/-- Settles O27: the result after the cycle is what the bus path wrote, which is the
report of one of the two outcomes. -/
theorem encodeWritesFrameOrReportsError : Obligations.EncodeWritesFrameOrReportsError := by
  intro w s
  obtain ⟨t, ht, hrdata, hpath, henc, hout⟩ :=
    exec_answers_busPath (i := .wrEncode w) s nofun nofun nofun
  have hbus : busPath (.wrEncode w) s = writeEncode w (driveRdata 0 s) := rfl
  rw [hbus] at hrdata henc
  obtain ⟨hoperands, -⟩ := id henc
  obtain ⟨-, -, -, -, hsat, hlevel, htips, hzero, -⟩ := writeEncode_frame w (driveRdata 0 s)
  rw [SameOperands, hsat, hlevel, htips] at hoperands
  refine ⟨t, ht, fun hw => ?_, fun hw => ?_, hrdata.trans hzero, hoperands, hpath, hout⟩
  · rw [writeEncode_of_lt _ hw] at henc
    obtain ⟨-, hn, hc, hv, ha, hb⟩ := henc
    exact ⟨hn, hc, hv, ha, hb⟩
  · rw [writeEncode_of_le _ hw] at henc
    obtain ⟨-, hn, hc, hv, ha, hb⟩ := henc
    exact ⟨ha, hb, hn, hc, hv⟩

/-- Settles O30. -/
theorem tipsFieldSaturates : Obligations.TipsFieldSaturates := by
  intro n
  unfold tips16
  split
  case isTrue h => exact (min_eq_right h.le).symm
  case isFalse h =>
    rw [toNat_low_half]
    omega

/-- Settles O31: the CRC is a fold over the bytes, so that a last byte comes last. -/
theorem checksumIsCcittFalse : Obligations.ChecksumIsCcittFalse :=
  ⟨rfl, fun _ => rfl, fun bs b => crc16_append bs [b], by decide +kernel⟩

/-- Settles O32: the bytes are the halves of a field, put together again. -/
theorem frameIsBigEndian : Obligations.FrameIsBigEndian := by
  rintro sat l n f rfl
  exact ⟨toNat_bytes_of_half (level16 sat l), toNat_bytes_of_half (tips16 n),
    toNat_bytes_of_half (fieldCrc (level16 sat l) (tips16 n))⟩

/-- Settles O35. -/
theorem readEncodeReturnsZero : Obligations.ReadEncodeReturnsZero :=
  fun s => exec_answers_busPath (i := .rdEncode) s nofun nofun nofun

/-- Settles O36: `rdata` is the word that STATUS assembles, field by field. -/
theorem readStatusReturnsFields : Obligations.ReadStatusReturnsFields := by
  intro s
  obtain ⟨t, ht, hrdata, hrest⟩ := exec_answers_busPath (i := .rdStatus) s nofun nofun nofun
  have hword : t.rdata = statusWord s := hrdata
  refine ⟨t, ht, ?_⟩
  rw [hword]
  exact ⟨statusWord_nwritten s, statusWord_capErr s, statusWord_frameValid s,
    statusWord_reserved s, hrest⟩

/-- Settles O37. -/
theorem writeStatusIsIgnored : Obligations.WriteStatusIsIgnored :=
  fun w s => exec_answers_busPath (i := .wrStatus w) s nofun nofun nofun

/-- Settles O38. -/
theorem readFrameAReturnsBytes : Obligations.ReadFrameAReturnsBytes :=
  fun s => exec_answers_busPath (i := .rdFrameA) s nofun nofun nofun

/-- Settles O39. -/
theorem writeFrameAIsIgnored : Obligations.WriteFrameAIsIgnored :=
  fun w s => exec_answers_busPath (i := .wrFrameA w) s nofun nofun nofun

/-- Settles O40: `rdata` is FRAME_B zero-extended, and the invariant says what FRAME_B
holds beside a frame. -/
theorem readFrameBReturnsBytes : Obligations.ReadFrameBReturnsBytes := by
  intro s
  obtain ⟨t, ht, hrdata, hrest⟩ := exec_answers_busPath (i := .rdFrameB) s nofun nofun nofun
  obtain ⟨hlow, hhigh⟩ := frameBWord_fields s
  have hword : t.rdata = frameBWord s := hrdata
  refine ⟨t, ht, ?_⟩
  rw [hword]
  refine ⟨hlow, hhigh, fun hinv hv => ?_, hrest⟩
  rw [frameBWord_toNat, hinv.1 hv]

/-- Settles O41. -/
theorem writeFrameBIsIgnored : Obligations.WriteFrameBIsIgnored :=
  fun w s => exec_answers_busPath (i := .wrFrameB w) s nofun nofun nofun

/-- Settles O45: the read finds STATUS as the encode left it. -/
theorem statusTellsOfTheLastEncode : Obligations.StatusTellsOfTheLastEncode := by
  intro w v e f s
  obtain ⟨t, ht, hrdata⟩ := runInputs_write_read .encode (q := .status) nofun w v e f s
  exact ⟨t, ht, hrdata.trans (statusWord_writeEncode w _)⟩

end Sys2Proof.Machine

/-! PROOFS. Reset and hazards: what a reset cycle leaves, that a level high since
reset counts once, and the checksum of a usable frame (R140, R142, R144). -/

namespace Sys2Proof.Machine

/-! ### A level high since reset -/

/-- The accumulator after a reset and `n` cycles that all sampled 1 and neither reset
nor drained it: the ones fill the first `n` stages of the delay line, and COUNT is 1
once they have passed its end (R142). -/
def HighSinceReset (n : Nat) (s : State) : Prop :=
  s.params.Legal ∧ (∀ i ≤ s.params.syncStages, delayStage s i = decide (i < n)) ∧
  s.count = if s.params.syncStages + 1 ≤ n then 1 else 0

theorem resetElements_highSinceReset {s : State} (hl : s.params.Legal) :
    HighSinceReset 0 (resetElements s) := by
  refine ⟨hl, fun i _ => ?_, rfl⟩
  simp [delayStage]

/-- The event is due in one cycle alone: when the ones have reached the last
synchronizer stage and not yet PREV. -/
theorem HighSinceReset.incBit_eq {n : Nat} {s : State} (h : HighSinceReset n s) :
    incBit s = decide (n = s.params.syncStages) := by
  obtain ⟨⟨-, -, hN, -⟩, hstage, -⟩ := h
  have hlast : s.params.syncStages - 1 + 1 = s.params.syncStages := by omega
  rw [incBit_eq_delayStage hlast, hstage _ (by omega), hstage _ (by omega), ← decide_not,
    ← Bool.decide_and]
  exact decide_eq_decide.2 (by omega)

/-- The increment lands when it is due, and COUNT, still 0 then, has room for it. -/
theorem HighSinceReset.eventIncrement_count_eq {n : Nat} {s : State} (h : HighSinceReset n s) :
    (eventIncrement s).count = if s.params.syncStages + 1 ≤ n + 1 then 1 else 0 := by
  have hinc := h.incBit_eq
  obtain ⟨⟨hW, -⟩, -, hcount⟩ := h
  rw [eventIncrement_eventCounted s, hinc, hcount]
  rcases Nat.lt_trichotomy n s.params.syncStages with hlt | rfl | hgt
  · simp [hlt.ne, hlt.not_ge, hlt.le.not_gt]
  · have hroom : 2 ^ 16 ≤ 2 ^ s.params.countW := Nat.pow_le_pow_right (by decide) hW
    have hpos : 0 < 2 ^ s.params.countW - 1 := by omega
    simp [hpos]
  · simp [hgt.ne', hgt, hgt.le]

/-- A further cycle with the level high moves the ones on by one stage. -/
theorem HighSinceReset.succ {n : Nat} {p : CycleInput} {s t : State}
    (h : HighSinceReset n s) (ht : runCycle p s = .next t)
    (hp : isResetCycle p = false ∧ isDrainCycle p = false ∧ p.evt = .high) :
    HighSinceReset (n + 1) t := by
  obtain ⟨hr, hd, hevt⟩ := hp
  obtain ⟨hparams, -⟩ := runCycle_outside ht
  have hcount := (runCycle_counted ht hr hd).trans h.eventIncrement_count_eq
  obtain ⟨hl, hstage, -⟩ := h
  rw [HighSinceReset, hparams]
  refine ⟨hl, fun i hi => ?_, hcount⟩
  cases i with
  | zero =>
    obtain ⟨-, -, hN, -⟩ := hl
    rw [runCycle_delayStage_zero ht hr (by omega), hevt]
    simp [sampleOf]
  | succ i =>
    rw [runCycle_delayStage_succ ht hr hi, hstage i (by omega)]
    exact decide_eq_decide.2 Nat.succ_lt_succ_iff.symm

theorem HighSinceReset.add_length {n : Nat} {ps : List CycleInput} {s t : State}
    (h : HighSinceReset n s) (ht : runInputs ps s = .next t)
    (hps : ∀ p ∈ ps, isResetCycle p = false ∧ isDrainCycle p = false ∧ p.evt = .high) :
    HighSinceReset (n + ps.length) t := by
  induction ps generalizing n s with
  | nil => cases ht; exact h
  | cons p ps ih =>
    obtain ⟨hp, hrest⟩ := List.forall_mem_cons.1 hps
    obtain ⟨u, hu, hrun⟩ := runInputs_cons_eq_next ht
    rw [List.length_cons, Nat.add_comm ps.length, ← Nat.add_assoc]
    exact ih (h.succ hu hp) hrun hrest

/-! ### The checksum of a held frame -/

/-- Bytes followed by their own checksum, high byte first, have the checksum 0. -/
theorem crc16_append_own_bytes (bs : List Byte) :
    crc16 (bs ++ [highByte (crc16 bs), lowByte (crc16 bs)]) = 0 := by
  rw [crc16_append]
  exact crcByte_own_bytes (crc16 bs)

theorem FrameInv.crc16_unpackFrame {s : State} (h : FrameInv s) (hv : s.frameValid = true) :
    crc16 (unpackFrame s.frameA s.frameB).bytes = 0 := by
  obtain ⟨hcrc, -⟩ := h
  have hbytes : (unpackFrame s.frameA s.frameB).bytes =
      [s.frameA.extractLsb' 24 8, s.frameA.extractLsb' 16 8, s.frameA.extractLsb' 8 8,
        s.frameA.extractLsb' 0 8] ++ [highByte s.frameB, lowByte s.frameB] := rfl
  rw [hbytes, hcrc hv]
  exact crc16_append_own_bytes _

/-- A usable frame is one that FRAME_VALID, STATUS[9], says is held (R27, R144). -/
theorem FrameUsable.frameValid {s : State} (h : FrameUsable s) : s.frameValid = true := by
  rw [← statusWord_frameValid, h]
  rfl

/-! ### The obligations -/

/-- Settles O18: the reset starts the invariant `HighSinceReset`, and every cycle of the
run moves it on by one. -/
theorem highThroughResetCountsOnce : Obligations.HighThroughResetCountsOnce := by
  intro p ps s t hl hp hps h
  obtain ⟨u, hu, hrun⟩ := runInputs_cons_eq_next h
  have hstart : HighSinceReset 0 u := by
    rw [runCycle_reset hu hp]
    exact resetElements_highSinceReset hl
  obtain ⟨-, -, hcount⟩ := hstart.add_length hrun hps
  rw [hcount, runInputs_params h, Nat.zero_add]

/-- Settles O48: FRAME_B holds the checksum of the bytes in FRAME_A. -/
theorem usableFrameCarriesItsChecksum : Obligations.UsableFrameCarriesItsChecksum := by
  rintro s ⟨-, -, hframe⟩ husable
  exact FrameInv.crc16_unpackFrame hframe husable.frameValid

/-- Settles O1: `rst` alone makes the cycle a reset (R56). -/
theorem resetZeroesEveryElement : Obligations.ResetZeroesEveryElement := by
  refine ⟨fun s => ⟨_, rfl, resetElements_allZero s, rfl, rfl, rfl, rfl, rfl⟩, fun p s hr => ?_⟩
  obtain ⟨t, ht⟩ := exists_runCycle p s
  obtain ⟨hparams, -, -, hscript, hvars⟩ := runCycle_outside ht
  have hzero : AllZero t := runCycle_reset ht hr ▸ resetElements_allZero _
  exact ⟨t, ht, hzero, hparams, hscript, hvars⟩

end Sys2Proof.Machine
